-- ==== Sys2Proof/Word.lean ====
section
/-! DEFINITION. The words the manual counts and numbers with: station times, line numbers, bytes and station numbers. -/

namespace Sys2Proof

/-- A station time: the free-running 32-bit count of microseconds (00_scope.md, Time). -/
abbrev Time := BitVec 32

/-- A line number: the 16-bit count of accepted strobes since roll start (00_scope.md, Lines). -/
abbrev Line := BitVec 16

/-- A byte of a frame payload, of the voicing store, or a cell value. -/
abbrev Byte := BitVec 8

/-- A station number, 0..15 (00_scope.md, The instrument and its stations). -/
abbrev StationNo := BitVec 4

/-- A key driver's number on its own station, 0..11. -/
abbrev Driver := Fin 12

end Sys2Proof
end

