-- ==== Sys2Proof/Config.lean ====
section
/-! DEFINITION. What the part itself fixes: capacities, intervals and thresholds that no voicing changes.
The manual leaves no value open that a rule reads, so there is no free value here (notes/assumptions/40.md). -/

namespace Sys2Proof.Config

/-- The line time ring holds the 64 most recently accepted lines (R7). -/
abbrev ringLines : Nat := 64
/-- The note list holds at most 40 records (R58). -/
abbrev noteCapacity : Nat := 40
/-- An outgoing shade queue holds up to 4 entries (R30). -/
abbrev shadeQueue : Nat := 4
/-- A received timeline holds up to 6 segments (R33). -/
abbrev timelineSegments : Nat := 6
/-- The keep count at which a KEEP frame is queued (R31). -/
abbrev keepLines : Nat := 16
/-- The widest distance, in lines, of a frame's line from the current line (R34, R103). -/
abbrev alignWindow : Int := 4096
/-- The outgoing pedal queue holds up to 4 frames (R101). -/
abbrev pedalQueue : Nat := 4
/-- A pedal event queue holds up to 4 events (R104). -/
abbrev pedalEvents : Nat := 4
/-- Claim records kept per entry of the peer load table (R118). -/
abbrev claimRecords : Nat := 4
/-- The smallest change of standing load that queues a LOAD frame (R116). -/
abbrev loadStep : Nat := 4
/-- The LOAD refresh interval, µs (R116). -/
abbrev loadRefresh : Int := 500000
/-- The silence after which a peer's entry becomes absent, µs (R118). -/
abbrev peerSilence : Int := 1500000
/-- The widest gap between windows at which a note joins a claim, µs (R125). -/
abbrev joinGap : Int := 2000
/-- The length on the line of a CLAIM frame, µs (R156). -/
abbrev claimFrameTime : Nat := 200
/-- The open-load time, µs (R94). -/
abbrev openLoadTime : Int := 2000
/-- The settle time and the conversion time of the measurement converter, µs (R142). -/
abbrev settleTime : Nat := 50
/-- See `settleTime`. -/
abbrev conversionTime : Nat := 10
/-- Half a schedule frame of the converter, µs: the supply falls due at a frame's start and a cluster 500 µs into it (R141). -/
abbrev halfFrame : Nat := 500
/-- The recovery margin of a supply condition, supply units (R145). -/
abbrev supplyMargin : Nat := 4
/-- The intake queue's places that any frame may use (R168). -/
abbrev intakeShared : Nat := 23
/-- All the intake queue's places, own echo's included (R168). -/
abbrev intakeAll : Nat := 24
/-- The objection count at which the station is muted (R164). -/
abbrev muteCount : Nat := 32
/-- The clean frames of others that end mute (R165). -/
abbrev unmuteFrames : Nat := 64
/-- The objected attempt at which a slot becomes FAILED (R163). -/
abbrev attemptLimit : Nat := 4
/-- The value at which a counter saturates (R183). -/
abbrev counterMax : Nat := 65535
/-- The bytes of the store image (11.4). -/
abbrev imageBytes : Nat := 399
/-- The format code of a store image (11.4). -/
abbrev formatCode : Nat := 0x3C05

end Sys2Proof.Config
end

