-- ==== Sys2Proof/Syntax.lean ====
section
/-! DEFINITION. The commands of the block: one constructor for each row of spec/opcode_table.json, in the table's order.
Every command is one event of the manual and carries the station time at which it happens (notes/assumptions/1.md)
and, where the event brings something from outside the part, what it brings. -/

namespace Sys2Proof

/-- A half of the keyboard (00_scope.md, Terms). -/
inductive Half where
  | bass | treble
deriving DecidableEq, Repr

/-- A pedal of the action (06_pedalling.md). -/
inductive Pedal where
  | damper | shift
deriving DecidableEq, Repr

/-- A drive stage with its current sense: twelve key drivers and two pedal drivers. -/
inductive Stage where
  | key (k : Driver)
  | pedal (p : Pedal)
deriving DecidableEq, Repr

/-- A bit time on the idle line at which a frame may begin (R158): the station time, and whether the station reads there a
start bit that it did not send (notes/assumptions/11.md). -/
structure BitTime where
  time : Time
  startBit : Bool
deriving DecidableEq, Repr

/-- The two bits that end a frame before its idle bits (R156), as a sender reads them (`true` is recessive): the objection
slot as the other stations leave it, and the objection delimiter (notes/assumptions/12.md). -/
structure ObjectionBits where
  slot : Bool
  delimiter : Bool
deriving DecidableEq, Repr

/-- The commands. `t` gives the station time of the event in each of them. -/
inductive Instr where
  /-- RESET (R173): the reset pin, with the reading of the station-number straps. -/
  | reset (t : Time) (straps : StationNo)
  /-- STORE_READ (R184): the bytes the voicing store acknowledged in the first read and in the second. -/
  | storeRead (t : Time) (first second : List Byte)
  /-- STROBE (R2). -/
  | strobe (t : Time)
  /-- CAPTURE_SWEEP_COMPLETE (R3): the cell values of the sweep, cell 0 first. -/
  | captureSweepComplete (t : Time) (cells : List Byte)
  /-- STALL (R9). -/
  | stall (t : Time)
  /-- HOLD_OVER_END (R10). -/
  | holdOverEnd (t : Time)
  /-- KEEP_COUNT_EXPIRY (R31) of one half. -/
  | keepCountExpiry (t : Time) (h : Half)
  /-- ARM_EVENT (R63) of the record next due. -/
  | armEvent (t : Time)
  /-- FIRE_EVENT (R66) of the record next due. -/
  | fireEvent (t : Time)
  /-- RELEASE_EVENT (R69) of the record next due. -/
  | releaseEvent (t : Time)
  /-- PULSE_END (R82) of one key. -/
  | pulseEnd (t : Time) (k : Driver)
  /-- RETURN_END (R85) of one key. -/
  | returnEnd (t : Time) (k : Driver)
  /-- TRIP_CURRENT_CROSSING (R92, R111): a stage's current rises above I_trip, or falls to it or below. -/
  | tripCurrentCrossing (t : Time) (stage : Stage) (above : Bool)
  /-- OVERCURRENT_DETECTION (R93) of one key. -/
  | overcurrentDetection (t : Time) (k : Driver)
  /-- PEDAL_OVERCURRENT (R111) of one pedal. -/
  | pedalOvercurrent (t : Time) (p : Pedal)
  /-- OPEN_CURRENT_CROSSING (R94): a key's current falls below I_open, or rises to it or above. -/
  | openCurrentCrossing (t : Time) (k : Driver) (below : Bool)
  /-- OPEN_LOAD_WARNING (R94) of one key. -/
  | openLoadWarning (t : Time) (k : Driver)
  /-- PEDAL_ACTION_EVENT (R106) of one pedal's earliest event. -/
  | pedalActionEvent (t : Time) (p : Pedal)
  /-- RAMP_STEP (R107) of one pedal. -/
  | rampStep (t : Time) (p : Pedal)
  /-- LOAD_REFRESH (R116). -/
  | loadRefresh (t : Time)
  /-- PEER_ABSENT (R118) of one peer. -/
  | peerAbsent (t : Time) (peer : StationNo)
  /-- SAMPLE_DUE (R141). -/
  | sampleDue (t : Time)
  /-- SUPPLY_SAMPLE (R145): the converted supply value, 0..1023 supply units. -/
  | supplySample (t : Time) (value : BitVec 10)
  /-- TEMPERATURE_SAMPLE (R150): the converted temperature, −40..215 °C. -/
  | temperatureSample (t : Time) (value : Int)
  /-- PROBE_CONVERSION (R144): what the probed source shows, in the source's own unit. -/
  | probeConversion (t : Time) (value : Int)
  /-- PLAY (R175): the TRANSPORT frame in handling. -/
  | play (t : Time)
  /-- STOP (R176). -/
  | stop (t : Time)
  /-- CLEAR (R154). -/
  | clear (t : Time)
  /-- TRIM (R39). -/
  | trim (t : Time)
  /-- RESTART (R178), with the reading of the station-number straps. -/
  | restart (t : Time) (straps : StationNo)
  /-- HALT (R177). -/
  | halt (t : Time)
  /-- PROBE (R181). -/
  | probe (t : Time)
  /-- SHADE_SEGMENT (R33). -/
  | shadeSegment (t : Time)
  /-- SHADE_KEEP (R35). -/
  | shadeKeep (t : Time)
  /-- PEDAL_FRAME (R103). -/
  | pedalFrame (t : Time)
  /-- CLAIM_FRAME (R120). -/
  | claimFrame (t : Time)
  /-- LOAD_FRAME (R119). -/
  | loadFrame (t : Time)
  /-- NOTICE_FRAME (R169). -/
  | noticeFrame (t : Time)
  /-- REPLY_FRAME (R169). -/
  | replyFrame (t : Time)
  /-- HANDLING_END (R169). -/
  | handlingEnd (t : Time)
  /-- ATTEMPT_START (R158): the station begins its chosen frame at a bit time of the idle line, or reads another station's
  start bit there. -/
  | attemptStart (t : BitTime)
  /-- ARBITRATION_LOST (R159). -/
  | arbitrationLost (t : Time)
  /-- ATTEMPT_END (R163): the bits that the sender read back of its own frame after the precedence field, from the first of
  the length to the last of the check (`true` is recessive), and the objection slot and delimiter that follow (R162). -/
  | attemptEnd (t : Time) (bits : List Bool) (ending : ObjectionBits)
  /-- FRAME_DELIVERY (R161): the strap reading (used by a RESTART taken in UNVOICED, R178), the bits read on the line from
  the start bit to the last bit of the check (`true` is recessive), and whether another station drove the objection slot. -/
  | frameDelivery (t : Time) (straps : StationNo) (bits : List Bool) (objection : Bool)
  /-- BROKEN_FRAME (R160). -/
  | brokenFrame (t : Time)
  /-- LINE_IDLE (R158). -/
  | lineIdle (t : Time)
deriving DecidableEq, Repr

end Sys2Proof
end

