-- ==== Sys2Proof/WellFormed.lean ====
section
/-! DEFINITION. Which commands can come from the outside world: each check bounds what an event brings by the range the
manual gives for it. `exec` itself is total and does not ask. -/

namespace Sys2Proof

/-- A temperature sample is −40..215 °C (R141). -/
def temperatureInRange (value : Int) : Bool := decide (-40 ≤ value ∧ value ≤ 215)

/-- A probed source shows a supply value or a current of 0..1023, or a temperature of −40..215 (R141, R144). -/
def probedInRange (value : Int) : Bool := decide (-40 ≤ value ∧ value ≤ 1023)

/-- A head segment has 1 to 48 cells (1.1). -/
def cellCountInRange (cells : List Byte) : Bool := decide (1 ≤ cells.length ∧ cells.length ≤ 48)

/-- A sequential read acknowledges no more than the image's bytes, and a second read follows only a first one that fell
short (R184). -/
def readsInRange (first second : List Byte) : Bool :=
  decide (first.length ≤ Config.imageBytes ∧ second.length ≤ Config.imageBytes) &&
    (decide (first.length < Config.imageBytes) || second.isEmpty)

/-- A frame opens with a dominant start bit (11.4) and runs at most to the end of its check: 11 bits of start, precedence
and length, and ten bit times for each of at most 7 payload bytes that the length field can name and 2 check bytes (R156). -/
def frameInRange (bits : List Bool) : Bool := decide (bits.head? = some false ∧ bits.length ≤ 101)

/-- An own frame is read back over its length, at most 6 payload bytes and its check: 3 bits and ten bit times for each byte
(R156, R162). -/
def readBackInRange (bits : List Bool) : Bool := decide (bits.length ≤ 83)

/-- A command whose operands stand in the ranges the manual gives them. -/
def WellFormed (i : Instr) : Bool :=
  match i with
  | .reset _ _ => true
  | .storeRead _ first second => readsInRange first second
  | .strobe _ => true
  | .captureSweepComplete _ cells => cellCountInRange cells
  | .stall _ => true
  | .holdOverEnd _ => true
  | .keepCountExpiry _ _ => true
  | .armEvent _ => true
  | .fireEvent _ => true
  | .releaseEvent _ => true
  | .pulseEnd _ _ => true
  | .returnEnd _ _ => true
  | .tripCurrentCrossing _ _ _ => true
  | .overcurrentDetection _ _ => true
  | .pedalOvercurrent _ _ => true
  | .openCurrentCrossing _ _ _ => true
  | .openLoadWarning _ _ => true
  | .pedalActionEvent _ _ => true
  | .rampStep _ _ => true
  | .loadRefresh _ => true
  | .peerAbsent _ _ => true
  | .sampleDue _ => true
  | .supplySample _ _ => true
  | .temperatureSample _ value => temperatureInRange value
  | .probeConversion _ value => probedInRange value
  | .play _ => true
  | .stop _ => true
  | .clear _ => true
  | .trim _ => true
  | .restart _ _ => true
  | .halt _ => true
  | .probe _ => true
  | .shadeSegment _ => true
  | .shadeKeep _ => true
  | .pedalFrame _ => true
  | .claimFrame _ => true
  | .loadFrame _ => true
  | .noticeFrame _ => true
  | .replyFrame _ => true
  | .handlingEnd _ => true
  | .attemptStart _ => true
  | .arbitrationLost _ => true
  | .attemptEnd _ bits _ => readBackInRange bits
  | .frameDelivery _ _ bits _ => frameInRange bits
  | .brokenFrame _ => true
  | .lineIdle _ => true

end Sys2Proof
end

