-- ==== Sys2Proof/Decode.lean ====
section
/-! DEFINITION. The commands that the bits of a word spell. No row of spec/opcode_table.json gives bits: the block takes
events, not encoded instructions, so no word spells a command (notes/assumptions/36.md). -/

namespace Sys2Proof

/-- The command that a word spells by the table's bits: none, for the table gives no row any bits. -/
def decodeTableWord (_nbits _w : Nat) : Option Instr := none

end Sys2Proof
end

