-- ==== Sys2Proof/Machine/State.lean ====
section
/-! DEFINITION. The state of the block, as plain data, and its value right after reset. Each structure is one block of
the overview in 00_scope.md; each field is a piece of state that a rule of spec/ names (INVENTORY.md lists them), but for
those marked as the model's own. -/

namespace Sys2Proof.Machine

/-! ### Faults and refusals -/

/-- The reasons a step can fault. There are none: the manual gives every command an effect (NOTES.md, Stops). -/
inductive Fault where
deriving DecidableEq, Repr

/-- The reasons a step can be refused. -/
inductive Refusal where
  /-- A command that has no meaning yet, named as the table names it. No arm of `exec` raises it; it would be safe. -/
  | notModelled (mnemonic : String)
deriving DecidableEq, Repr

/-! ### Small types -/

/-- The mode of the station (chapter 10). -/
inductive Mode where
  | loading | unvoiced | standby | play | winddown | silenced
deriving DecidableEq, Repr

/-- A group of drive stages that share a temperature sensor (chapter 8). -/
inductive Cluster where
  | a | b | c | p
deriving DecidableEq, Repr

/-- One value for each cluster. -/
structure PerCluster (α : Type) where
  a : α
  b : α
  c : α
  p : α
deriving DecidableEq, Repr

/-- The position of a pedal: the damper takes all three, the shift takes UP and DOWN (chapter 6). -/
inductive Position where
  | up | half | down
deriving DecidableEq, Repr

/-- One of the two claim slots. -/
inductive ClaimId where
  | a | b
deriving DecidableEq, Repr

/-! ### The voicing (chapter 11) -/

/-- The function of a track (1.5). -/
inductive TrackFunction where
  | unused
  | note (driver : Driver)
  | level1 (h : Half) | level2 (h : Half) | level4 (h : Half)
  | swell (h : Half) | accent (h : Half) | hush (h : Half)
  | sustain | halfdamp | soft
deriving DecidableEq, Repr

/-- An entry of the track table (1.5). -/
structure TrackEntry where
  cellA : Nat
  cellB : Option Nat
  function : TrackFunction
deriving DecidableEq, Repr

/-- The per-half parameters of the store. -/
structure HalfVoicing where
  targets : List Nat
  slow : Nat
  fast : Nat
  default : Nat
  accent : Nat
deriving DecidableEq, Repr

/-- A key record, in the store's units, with the floor duty that R41 derives. -/
structure KeyRecord where
  number : Nat
  eMin : Nat
  gain : Nat
  pMin : Nat
  pMax : Nat
  iFull : Nat
  /-- in units of 100 µs -/
  tPulse : Nat
  /-- in units of 100 µs -/
  fSlow : Nat
  /-- in units of 100 µs -/
  fFast : Nat
  pHold : Nat
  pCool : Nat
  /-- ms -/
  relLead : Nat
  /-- ms -/
  tReturn : Nat
  /-- ms -/
  tRep : Nat
  enabled : Bool
  /-- derived by R41 -/
  pFloor : Nat
deriving DecidableEq, Repr

/-- The checked voicing in force from the entry to STANDBY (R184), with the derived values of R41. -/
structure Voicing where
  splitKey : Nat
  bassAuthority : Option StationNo
  trebleAuthority : Option StationNo
  pedalSource : Option StationNo
  pedalDrive : Option StationNo
  cells : Nat
  tOpen : Nat
  tClose : Nat
  kOpen : Nat
  kClose : Nat
  /-- µs -/
  tLmin : Nat
  /-- ms -/
  tLmax : Nat
  /-- ms -/
  tHold : Nat
  /-- the replay delay as raised by R41, µs -/
  delay : Nat
  /-- the arm margin M, ms -/
  margin : Nat
  knots : List Nat
  bass : HalfVoicing
  treble : HalfVoicing
  supplyLimit : Nat
  reserve : Nat
  vNom : Nat
  vUv : Nat
  vOvw : Nat
  vOvs : Nat
  uvLatched : Bool
  ovsLatched : Bool
  thermalGlobal : Bool
  pOvcap : Nat
  pHotcap : Nat
  /-- µs -/
  deglitch : Nat
  iTrip : Nat
  iOpen : Nat
  /-- ms -/
  pedalLead : Nat
  /-- ms -/
  tRamp : Nat
  pHalf : Nat
  pDown : Nat
  pShift : Nat
  iFullPedal : Nat
  tracks : Vector TrackEntry 24
  keys : Vector KeyRecord 12
deriving DecidableEq, Repr

/-! ### Scan capture unit and track decoder (chapter 1) -/

/-- A capture sweep in flight (1.2). -/
structure Sweep where
  line : Line
  time : Time
  /-- cells taken so far -/
  taken : Nat
  repeats : Nat
deriving DecidableEq, Repr

/-- A held strobe with its trailing repeats (1.2). -/
structure HeldStrobe where
  line : Line
  time : Time
  repeats : Nat
deriving DecidableEq, Repr

/-- An entry of the line time ring (R7). -/
structure RingEntry where
  line : Line
  time : Time
deriving DecidableEq, Repr

/-- The roll state (1.4). -/
inductive Roll where
  | still | moving
deriving DecidableEq, Repr

/-- The scan capture unit. -/
structure Scan where
  sweep : Option Sweep
  held : Option HeldStrobe
  lastStrobe : Option Time
  /-- the line counter -/
  line : Line
  /-- the line time ring, oldest first -/
  ring : List RingEntry
  roll : Roll
  /-- the stall timer's expiry while it runs -/
  stallAt : Option Time
  /-- the hold-over timer's expiry while it runs -/
  holdOverAt : Option Time
deriving DecidableEq, Repr

/-- The decode state of a track (1.6). -/
inductive Decode where
  | closed
  | opening (n : Nat)
  | openHole
  | closing (n : Nat)
deriving DecidableEq, Repr

/-- A track's decode items (1.6). -/
structure Track where
  decode : Decode
  runStart : Option Line
  orphan : Bool
deriving DecidableEq, Repr

/-! ### Shade unit (chapter 2) -/

/-- A segment of shade motion (2.2). -/
structure Segment where
  start : Line
  s0 : Nat
  target : Nat
  rate : Nat
  accent : Bool
deriving DecidableEq, Repr

/-- An entry of an outgoing shade queue (R30). -/
inductive ShadeFrame where
  | segment (g : Segment)
  | keep (line : Line)
deriving DecidableEq, Repr

/-- The shade unit's state for one half. -/
structure HalfShade where
  generator : Option Segment
  keepCount : Nat
  queue : List ShadeFrame
  timeline : List Segment
  /-- the confirmed-through line of a half the station does not generate for; for the other halves it is the generator
  line (R35) and this field is not read -/
  through : Option Line
deriving DecidableEq, Repr

/-- The shade unit. -/
structure Shade where
  bass : HalfShade
  treble : HalfShade
  generatorLine : Line
  trim : Int
deriving DecidableEq, Repr

/-! ### Note scheduler (chapter 4) -/

/-- Where a note stands (R57). -/
inductive NoteState where
  | waiting | armed | sounding
deriving DecidableEq, Repr

/-- What the arm event computes for a note (R57: the fields absent until armed that every armed note has). -/
structure Strike where
  energy : Nat
  duty : Nat
  share : Nat
  fireTime : Time
deriving DecidableEq, Repr

/-- A claim tag: a slot and a tag number (R57, R124). -/
structure ClaimTag where
  slot : ClaimId
  tag : BitVec 4
deriving DecidableEq, Repr

/-- A note record (R57). -/
structure Note where
  driver : Driver
  onsetLine : Line
  onsetTime : Time
  state : NoteState
  armTime : Time
  /-- energy, duty, claim share and fire time, absent until armed -/
  strike : Option Strike
  claimTag : Option ClaimTag
  windowEnd : Option Time
  releaseTime : Option Time
  unannounced : Bool
  /-- the record's release event has been taken (R59) -/
  released : Bool
  /-- the model's own: the due time was set at or before now within the present event and is still to be reached (R59) -/
  atOnce : Bool
deriving DecidableEq, Repr

/-! ### Key drive bank (chapter 5) -/

/-- The stroke state of a key with the items held in that state (5.1). -/
inductive Stroke where
  | rest
  | strike (pulseEnd : Time) (applied : Nat)
  | hold (base applied : Nat)
  | returning (start : Time)
  | faulted
deriving DecidableEq, Repr

/-- A key's stroke machine (5.1). -/
structure Key where
  stroke : Stroke
  holdCurrent : Nat
  overRun : Option Time
  openRun : Option Time
  /-- the coil current stands below I_open, as it does with the coil off (R94, notes/assumptions/49.md) -/
  lowCurrent : Bool
  openWarning : Bool
deriving DecidableEq, Repr

/-! ### Pedal unit (chapter 6) -/

/-- A PEDAL frame of the source: a whole position at a line (R100). -/
structure PedalMove where
  pedal : Pedal
  position : Position
  line : Line
deriving DecidableEq, Repr

/-- A pedal event; an absent action time is *waiting* (R104). -/
structure PedalEvent where
  position : Position
  line : Line
  action : Option Time
deriving DecidableEq, Repr

/-- A ramp in flight (6.3); `taken` counts the steps already taken. -/
structure Ramp where
  d0 : Nat
  target : Nat
  start : Time
  steps : Nat
  taken : Nat
deriving DecidableEq, Repr

/-- The state of a pedal machine (6.3). -/
inductive PedalState where
  | resting
  | moving (ramp : Ramp)
  | holding
  | faulted
deriving DecidableEq, Repr

/-- One pedal at the pedal drive: its event queue, commanded position and machine (6.2, 6.3). -/
structure PedalDrive where
  events : List PedalEvent
  commanded : Position
  state : PedalState
  base : Nat
  applied : Nat
  load : Nat
  overRun : Option Time
deriving DecidableEq, Repr

/-- The pedal unit. -/
structure Pedals where
  lastDamper : Position
  lastShift : Position
  queue : List PedalMove
  damper : PedalDrive
  shift : PedalDrive
deriving DecidableEq, Repr

/-! ### Supply share unit (chapter 7) -/

/-- The last LOAD queued: its value and its time (R116). -/
structure LoadMark where
  value : Nat
  time : Time
deriving DecidableEq, Repr

/-- A claim record; it stands for the interval from `start` up to `stop` (R118). -/
structure ClaimRecord where
  tag : BitVec 4
  amount : Nat
  start : Time
  stop : Time
deriving DecidableEq, Repr

/-- An entry of the peer load table (R118). -/
structure Peer where
  present : Bool
  load : Nat
  lastHeard : Time
  claims : List ClaimRecord
deriving DecidableEq, Repr

/-- The claim that a claim slot carries (R124). -/
structure Claim where
  tag : BitVec 4
  amount : Nat
  windowStart : Time
  windowEnd : Time
  overdrawn : Bool
  late : Bool
deriving DecidableEq, Repr

/-- A claim slot's contents: its tag counter and its claim (R124). -/
structure ClaimSlot where
  counter : BitVec 4
  claim : Option Claim
deriving DecidableEq, Repr

/-- The departed claim (R121). -/
structure Departed where
  tag : BitVec 4
  amount : Nat
  windowStart : Time
  windowEnd : Time
deriving DecidableEq, Repr

/-- The supply share unit. -/
structure Share where
  ownLoad : Nat
  lastLoad : Option LoadMark
  heldLoad : Option Nat
  /-- the entries of the station numbers; the own number's entry is not used -/
  peers : Vector Peer 16
  /-- the claim records kept under the station's own number (R121) -/
  ownClaims : List ClaimRecord
  departed : Option Departed
  slotA : ClaimSlot
  slotB : ClaimSlot
deriving DecidableEq, Repr

/-! ### Protection monitor and measurement converter (chapter 8) -/

/-- A supply condition: PRESENT or ABSENT, and its run of 0 or 1 samples (8.2). -/
structure Condition where
  present : Bool
  run : Bool
deriving DecidableEq, Repr

/-- A thermal level (8.4). -/
inductive Level where
  | normal | warm | hot | shutdown
deriving DecidableEq, Repr

/-- A cluster's thermal level and the indication of its previous sample (R150). A level of SHUTDOWN is the latched
thermal shutdown of R152: it is entered and cleared with it. -/
structure Thermal where
  level : Level
  previous : Option Level
deriving DecidableEq, Repr

/-- The protection monitor. Key and pedal faults of the latched fault set stand in the machines' FAULTED states. -/
structure Protection where
  uv : Condition
  ovw : Condition
  ovs : Condition
  uvWarning : Bool
  ovsWarning : Bool
  uvFault : Bool
  ovsFault : Bool
  halt : Bool
  clusters : PerCluster Thermal
deriving DecidableEq, Repr

/-- A source of the converter's selector (8.1). -/
inductive Source where
  | supply
  | cluster (cluster : Cluster)
  | stage (stage : Stage)
deriving DecidableEq, Repr

/-- What identifies a probe for its reply (10.4). -/
structure ProbeId where
  requester : StationNo
  item : Byte
  argument : Byte
deriving DecidableEq, Repr

/-- The converter's sample schedule: when the next sample falls due and which of the eight half-frames it belongs to
(even: the supply; odd: clusters A, B, C, P in turn) (R141). -/
structure Schedule where
  due : Time
  phase : Fin 8
deriving DecidableEq, Repr

/-- A conversion in flight; `probe` is absent for a scheduled sample (R142). -/
structure Conversion where
  source : Source
  probe : Option ProbeId
  ends : Time
deriving DecidableEq, Repr

/-- A due sample that waits (R142). -/
structure DueSample where
  source : Source
  due : Time
deriving DecidableEq, Repr

/-- The waiting probe conversion (R144). -/
structure ProbeJob where
  source : Source
  probe : ProbeId
deriving DecidableEq, Repr

/-- The measurement converter. -/
structure Converter where
  vMeas : Nat
  temps : PerCluster Int
  schedule : Option Schedule
  inFlight : Option Conversion
  lastSource : Option Source
  waiting : List DueSample
  waitingProbe : Option ProbeJob
deriving DecidableEq, Repr

/-! ### Link controller (chapter 9) -/

/-- The payload of a frame, by the fields of its kind (11.4). -/
inductive Payload where
  | halt (target : Byte)
  | segment (h : Half) (accent : Bool) (s0 : BitVec 12) (rate level : Byte) (line : Line)
  | keep (h : Half) (line : Line)
  | pedal (p : Pedal) (code : BitVec 2) (line : Line)
  | claim (tag : BitVec 4) (overdrawn late : Bool) (amount : BitVec 16) (offset duration : Byte)
  | load (value : BitVec 12)
  | transport (command target argument : Byte)
  | notice (condition cause : Byte)
  | probe (target : BitVec 4) (item argument : Byte)
  | reply (requester : BitVec 4) (item condition : Byte) (value : BitVec 24)
deriving DecidableEq, Repr

/-- The eight outgoing slots (R166). -/
inductive Slot where
  | shade (h : Half)
  | pedal
  | claim (id : ClaimId)
  | load
  | notice
  | reply
deriving DecidableEq, Repr

/-- The state of an outgoing slot (R166). -/
inductive SlotState where
  | empty | queued | sending | sent | failed | cancelled
deriving DecidableEq, Repr

/-- Who asked for a pending cancellation: a recheck, after which the claim is fitted again (R131), or a change of mode,
after which no fit follows (R138). -/
inductive CancelKind where
  | refit | final
deriving DecidableEq, Repr

/-- An outgoing slot. A claim slot's frame is bound at each attempt (R134), so its `frame` stays absent. -/
structure OutSlot where
  state : SlotState
  frame : Option Payload
  queuedAt : Time
  /-- objected attempts since the slot last became QUEUED -/
  attempts : Nat
  cancel : Option CancelKind
deriving DecidableEq, Repr

/-- The outgoing slots by name. -/
structure Slots where
  shadeBass : OutSlot
  shadeTreble : OutSlot
  pedal : OutSlot
  claimA : OutSlot
  claimB : OutSlot
  load : OutSlot
  notice : OutSlot
  reply : OutSlot
deriving DecidableEq, Repr

/-- The station's own attempt on the line: its slot, whether the slot was QUEUED before it, and the frame. -/
structure Attempt where
  slot : Slot
  wasQueued : Bool
  frame : Payload
deriving DecidableEq, Repr

/-- The line as the controller takes it: not yet idle (R171, R160), idle, or carrying another station's frame, whose start
bit it has read (R158) or to which it lost an arbitration (R159). -/
inductive LineState where
  | unread | idle | receiving
deriving DecidableEq, Repr

/-- An entry of the intake queue, with the time of its delivery (R168, R120). -/
structure Entry where
  sender : StationNo
  payload : Payload
  own : Bool
  arrival : Time
deriving DecidableEq, Repr

/-- The handling in progress; `done` once the block it is handed to has done all that its rules state (R169). -/
structure Handling where
  entry : Entry
  done : Bool
deriving DecidableEq, Repr

/-- The link controller. -/
structure Link where
  line : LineState
  onLine : Option Attempt
  slots : Slots
  /-- the intake queue, oldest first -/
  intake : List Entry
  handling : Option Handling
  objectionCount : Nat
  muted : Bool
  cleanCount : Nat
deriving DecidableEq, Repr

/-! ### Station control (chapter 10) -/

/-- A notice kept while the NOTICE slot is SENDING (R180). -/
structure HeldNotice where
  condition : Byte
  cause : Byte
deriving DecidableEq, Repr

/-- A ready probe kept while the REPLY slot is SENDING, with the converted value of a sense probe (R181). -/
structure HeldProbe where
  probe : ProbeId
  sensed : Option Int
deriving DecidableEq, Repr

/-- Station control's report marks and held frames. The `carried` marks say that the reply made up last carried the mark
as set and that no increment has set it since (R179). -/
structure Control where
  lossMark : Bool
  dropMark : Bool
  carriedLoss : Bool
  carriedDrop : Bool
  heldNotice : Option HeldNotice
  heldProbe : Option HeldProbe
deriving DecidableEq, Repr

/-- The counters (R183), in the table's order. -/
structure Counters where
  rejectedStrobes : Nat
  mergedLines : Nat
  notesDroppedListFull : Nat
  notesDroppedFault : Nat
  lateStrikes : Nat
  repetitionDelays : Nat
  forcedReleases : Nat
  projectedShades : Nat
  misalignedFrames : Nat
  shadeFramesShed : Nat
  shadeSegmentsEvicted : Nat
  pedalEventsShed : Nat
  overdrawnClaims : Nat
  unannouncedStrikes : Nat
  lateClaims : Nat
  intakeLost : Nat
  objections : Nat
deriving DecidableEq, Repr

/-! ### The state -/

/-- The state of the block, with the queue of the commands that wait. -/
structure State where
  /-- the station timebase at the event being described -/
  now : Time
  /-- the station number read from the straps (R173) -/
  number : StationNo
  mode : Mode
  /-- the voicing in force; a station in LOADING or UNVOICED holds none (R184) -/
  voicing : Option Voicing
  scan : Scan
  tracks : Vector Track 24
  shade : Shade
  /-- the note list, in the order of R58 -/
  notes : List Note
  keys : Vector Key 12
  pedals : Pedals
  share : Share
  prot : Protection
  conv : Converter
  link : Link
  control : Control
  counters : Counters
  /-- the commands that wait, first in, first out -/
  pending : List Instr
deriving DecidableEq, Repr

/-! ### Reset values -/

/-- A track after reset (R21). -/
def Track.reset : Track := { decode := .closed, runStart := none, orphan := false }

/-- A half's shade state after reset (R40). -/
def HalfShade.reset : HalfShade :=
  { generator := none, keepCount := 0, queue := [], timeline := [], through := none }

/-- A stroke machine after reset (R98); its coil is off, so no current flows. -/
def Key.reset : Key :=
  { stroke := .rest, holdCurrent := 0, overRun := none, openRun := none, lowCurrent := true, openWarning := false }

/-- A pedal after reset (R114). -/
def PedalDrive.reset : PedalDrive :=
  { events := [], commanded := .up, state := .resting, base := 0, applied := 0, load := 0, overRun := none }

/-- A peer's entry after reset (R118, R140). -/
def Peer.reset : Peer := { present := false, load := 0, lastHeard := 0, claims := [] }

/-- A claim slot's contents after reset (R140). -/
def ClaimSlot.reset : ClaimSlot := { counter := 0, claim := none }

/-- A supply condition after reset (R155). -/
def Condition.reset : Condition := { present := false, run := false }

/-- A cluster's level after reset (R155). -/
def Thermal.reset : Thermal := { level := .normal, previous := none }

/-- An outgoing slot after reset (R171). -/
def OutSlot.reset : OutSlot :=
  { state := .empty, frame := none, queuedAt := 0, attempts := 0, cancel := none }

/-- The machine right after reset: each block at the values of R21, R40, R78, R98, R114, R140, R143, R155, R171 and
R183, in LOADING (R173). The timebase, the station number and the times that no rule reads while their owner is absent or
EMPTY stand at 0 by choice (notes/assumptions/2.md, 3.md). -/
def State.reset : State where
  now := 0
  number := 0
  mode := .loading
  voicing := none
  scan :=
    { sweep := none, held := none, lastStrobe := none, line := 0, ring := [], roll := .still,
      stallAt := none, holdOverAt := none }
  tracks := Vector.replicate 24 Track.reset
  shade := { bass := HalfShade.reset, treble := HalfShade.reset, generatorLine := 0, trim := 0 }
  notes := []
  keys := Vector.replicate 12 Key.reset
  pedals :=
    { lastDamper := .up, lastShift := .up, queue := [], damper := PedalDrive.reset, shift := PedalDrive.reset }
  share :=
    { ownLoad := 0, lastLoad := none, heldLoad := none, peers := Vector.replicate 16 Peer.reset,
      ownClaims := [], departed := none, slotA := ClaimSlot.reset, slotB := ClaimSlot.reset }
  prot :=
    { uv := Condition.reset, ovw := Condition.reset, ovs := Condition.reset, uvWarning := false,
      ovsWarning := false, uvFault := false, ovsFault := false, halt := false,
      clusters := ⟨Thermal.reset, Thermal.reset, Thermal.reset, Thermal.reset⟩ }
  conv :=
    { vMeas := 0, temps := ⟨25, 25, 25, 25⟩, schedule := none, inFlight := none, lastSource := none,
      waiting := [], waitingProbe := none }
  link :=
    { line := .unread, onLine := none,
      slots :=
        { shadeBass := OutSlot.reset, shadeTreble := OutSlot.reset, pedal := OutSlot.reset,
          claimA := OutSlot.reset, claimB := OutSlot.reset, load := OutSlot.reset,
          notice := OutSlot.reset, reply := OutSlot.reset },
      intake := [], handling := none, objectionCount := 0, muted := false, cleanCount := 0 }
  control :=
    { lossMark := false, dropMark := false, carriedLoss := false, carriedDrop := false,
      heldNotice := none, heldProbe := none }
  counters := ⟨0, 0, 0, 0, 0, 0, 0, 0, 0, 0, 0, 0, 0, 0, 0, 0, 0⟩
  pending := []

end Sys2Proof.Machine
end

