-- ==== Sys2Proof/Machine/Ops.lean ====
section
/-! DEFINITION. The operations every block shares: comparisons of times and lines, the parts of the state by name and
their updates, the counters, the order of the note list, and the outgoing slots. -/

namespace Sys2Proof.Machine

/-! ### Times, lines and arithmetic (00_scope.md, Conventions) -/

/-- The signed difference of two times, modulo 2^32. -/
def timeDiff (a b : Time) : Int := (a - b).toInt

/-- The timebase stands at a time or past it. -/
def reached (now due : Time) : Bool := decide (0 ≤ timeDiff now due)

/-- One time is earlier than another. -/
def earlier (a b : Time) : Bool := decide (timeDiff a b < 0)

/-- The earlier of two times. -/
def earlierOf (a b : Time) : Time := if earlier b a then b else a

/-- The later of two times. -/
def laterOf (a b : Time) : Time := if earlier a b then b else a

/-- A time some microseconds after another. -/
def after (t : Time) (us : Nat) : Time := t + BitVec.ofNat 32 us

/-- A time a signed number of microseconds after another. -/
def shifted (t : Time) (us : Int) : Time := t + BitVec.ofInt 32 us

/-- The signed difference of two line numbers, modulo 2^16. -/
def lineDiff (a b : Line) : Int := (a - b).toInt

/-- Two intervals overlap when each begins before the other ends (R123). -/
def overlaps (start₁ stop₁ start₂ stop₂ : Time) : Bool := earlier start₁ stop₂ && earlier start₂ stop₁

/-- A quotient rounded up. -/
def ceilDiv (a b : Nat) : Nat := (a + b - 1) / b

/-- clamp of 00_scope.md, on integers. -/
def clamp (x low high : Int) : Int := if x < low then low else if high < x then high else x

/-- A value as a field of `w` bits carries it: a larger value is sent as the field's largest (R188). -/
def fieldOf (w n : Nat) : BitVec w := BitVec.ofNat w (min n (2 ^ w - 1))

/-! ### Updates of the state, one block at a time -/

/-- Replace the timebase. -/
def State.setNow (s : State) (x : Time) : State := { s with now := x }
/-- Replace the mode. -/
def State.setMode (s : State) (x : Mode) : State := { s with mode := x }
/-- Replace the scan capture unit. -/
def State.setScan (s : State) (x : Scan) : State := { s with scan := x }
/-- Replace the tracks. -/
def State.setTracks (s : State) (x : Vector Track 24) : State := { s with tracks := x }
/-- Replace the shade unit. -/
def State.setShade (s : State) (x : Shade) : State := { s with shade := x }
/-- Replace the note list. -/
def State.setNotes (s : State) (x : List Note) : State := { s with notes := x }
/-- Replace the stroke machines. -/
def State.setKeys (s : State) (x : Vector Key 12) : State := { s with keys := x }
/-- Replace the pedal unit. -/
def State.setPedals (s : State) (x : Pedals) : State := { s with pedals := x }
/-- Replace the supply share unit. -/
def State.setShare (s : State) (x : Share) : State := { s with share := x }
/-- Replace the protection monitor. -/
def State.setProt (s : State) (x : Protection) : State := { s with prot := x }
/-- Replace the measurement converter. -/
def State.setConv (s : State) (x : Converter) : State := { s with conv := x }
/-- Replace the link controller. -/
def State.setLink (s : State) (x : Link) : State := { s with link := x }
/-- Replace station control's marks and held frames. -/
def State.setControl (s : State) (x : Control) : State := { s with control := x }
/-- Replace the counters. -/
def State.setCounters (s : State) (x : Counters) : State := { s with counters := x }

/-! ### Parts by name -/

/-- The part of a per-cluster value that belongs to one cluster. -/
def PerCluster.get {α : Type} (x : PerCluster α) : Cluster → α
  | .a => x.a
  | .b => x.b
  | .c => x.c
  | .p => x.p

/-- Replace the part of one cluster. -/
def PerCluster.set {α : Type} (x : PerCluster α) (v : α) : Cluster → PerCluster α
  | .a => { x with a := v }
  | .b => { x with b := v }
  | .c => { x with c := v }
  | .p => { x with p := v }

/-- The cluster of a key driver: A is drivers 0 to 3, B is 4 to 7, C is 8 to 11 (chapter 8). -/
def clusterOf (k : Driver) : Cluster :=
  if k.val < 4 then .a else if k.val < 8 then .b else .c

/-- The key drivers of a cluster, in driver order; cluster P has none. -/
def keysOf (cl : Cluster) : List Driver := (List.finRange 12).filter fun k => clusterOf k = cl

/-- The shade state of a half. -/
def State.half (s : State) : Half → HalfShade
  | .bass => s.shade.bass
  | .treble => s.shade.treble

/-- Replace the shade state of a half. -/
def State.setHalf (s : State) (x : HalfShade) : Half → State
  | .bass => s.setShade { s.shade with bass := x }
  | .treble => s.setShade { s.shade with treble := x }

/-- The stroke machine of a key. -/
def State.key (s : State) (k : Driver) : Key := s.keys[k]

/-- Replace the stroke machine of a key. -/
def State.setKey (s : State) (k : Driver) (x : Key) : State := s.setKeys (s.keys.set k x)

/-- The drive of a pedal. -/
def State.pedal (s : State) : Pedal → PedalDrive
  | .damper => s.pedals.damper
  | .shift => s.pedals.shift

/-- Replace the drive of a pedal. -/
def State.setPedal (s : State) (x : PedalDrive) : Pedal → State
  | .damper => s.setPedals { s.pedals with damper := x }
  | .shift => s.setPedals { s.pedals with shift := x }

/-- The contents of a claim slot. -/
def State.claimSlot (s : State) : ClaimId → ClaimSlot
  | .a => s.share.slotA
  | .b => s.share.slotB

/-- Replace the contents of a claim slot. -/
def State.setClaimSlot (s : State) (x : ClaimSlot) : ClaimId → State
  | .a => s.setShare { s.share with slotA := x }
  | .b => s.setShare { s.share with slotB := x }

/-- The other claim slot. -/
def ClaimId.other : ClaimId → ClaimId
  | .a => .b
  | .b => .a

/-- An outgoing slot by name. -/
def Slots.get (x : Slots) : Slot → OutSlot
  | .shade .bass => x.shadeBass
  | .shade .treble => x.shadeTreble
  | .pedal => x.pedal
  | .claim .a => x.claimA
  | .claim .b => x.claimB
  | .load => x.load
  | .notice => x.notice
  | .reply => x.reply

/-- Replace an outgoing slot by name. -/
def Slots.set (x : Slots) (v : OutSlot) : Slot → Slots
  | .shade .bass => { x with shadeBass := v }
  | .shade .treble => { x with shadeTreble := v }
  | .pedal => { x with pedal := v }
  | .claim .a => { x with claimA := v }
  | .claim .b => { x with claimB := v }
  | .load => { x with load := v }
  | .notice => { x with notice := v }
  | .reply => { x with reply := v }

/-- An outgoing slot of the station. -/
def State.slot (s : State) (i : Slot) : OutSlot := s.link.slots.get i

/-- Replace an outgoing slot of the station. -/
def State.setSlot (s : State) (i : Slot) (x : OutSlot) : State :=
  s.setLink { s.link with slots := s.link.slots.set x i }

/-! ### The voicing in force -/

/-- The voicing of a station that holds none: no role, no track, no key (R184, notes/assumptions/27.md). -/
def Voicing.blank : Voicing :=
  let half : HalfVoicing := { targets := [], slow := 0, fast := 0, default := 0, accent := 0 }
  let key : KeyRecord :=
    { number := 0, eMin := 0, gain := 0, pMin := 0, pMax := 0, iFull := 0, tPulse := 0, fSlow := 0, fFast := 0,
      pHold := 0, pCool := 0, relLead := 0, tReturn := 0, tRep := 0, enabled := false, pFloor := 0 }
  { splitKey := 0, bassAuthority := none, trebleAuthority := none, pedalSource := none, pedalDrive := none,
    cells := 0, tOpen := 0, tClose := 0, kOpen := 0, kClose := 0, tLmin := 0, tLmax := 0, tHold := 0, delay := 0,
    margin := 0, knots := [], bass := half, treble := half, supplyLimit := 0, reserve := 0, vNom := 0, vUv := 0,
    vOvw := 0, vOvs := 0, uvLatched := false, ovsLatched := false, thermalGlobal := false, pOvcap := 0, pHotcap := 0,
    deglitch := 0, iTrip := 0, iOpen := 0, pedalLead := 0, tRamp := 0, pHalf := 0, pDown := 0, pShift := 0,
    iFullPedal := 0, tracks := Vector.replicate 24 { cellA := 0, cellB := none, function := .unused },
    keys := Vector.replicate 12 key }

/-- The voicing that the blocks read. -/
def State.store (s : State) : Voicing := s.voicing.getD Voicing.blank

/-- The parameters of a half. -/
def Voicing.half (v : Voicing) : Half → HalfVoicing
  | .bass => v.bass
  | .treble => v.treble

/-- The authority of a half (2.1). -/
def Voicing.authority (v : Voicing) : Half → Option StationNo
  | .bass => v.bassAuthority
  | .treble => v.trebleAuthority

/-- The record of a key. -/
def Voicing.key (v : Voicing) (k : Driver) : KeyRecord := v.keys[k]

/-- The half of a key: BASS below the split key, TREBLE from it on (2.7). -/
def Voicing.halfOf (v : Voicing) (k : Driver) : Half :=
  if (v.key k).number < v.splitKey then .bass else .treble

/-- The function a track is decoded with: a NOTE track of a key that is not enabled is decoded as UNUSED (R12). -/
def Voicing.function (v : Voicing) (i : Fin 24) : TrackFunction :=
  match v.tracks[i].function with
  | .note k => if (v.key k).enabled then .note k else .unused
  | f => f

/-- The half of an expression function. -/
def TrackFunction.expressionHalf : TrackFunction → Option Half
  | .level1 h | .level2 h | .level4 h | .swell h | .accent h | .hush h => some h
  | _ => none

/-- The station is the authority of a half and has an expression track of it, so it generates its shade (R22). -/
def State.generates (s : State) (h : Half) : Bool :=
  s.store.authority h = some s.number &&
    (List.finRange 24).any fun i => (s.store.function i).expressionHalf = some h

/-- The station is the pedal source (R99). -/
def State.isPedalSource (s : State) : Bool := s.store.pedalSource = some s.number

/-- The station is the pedal drive (R103). -/
def State.isPedalDrive (s : State) : Bool := s.store.pedalDrive = some s.number

/-- The modes in which strobes, samples and every frame are taken: STANDBY, PLAY, WINDDOWN and SILENCED. -/
def Mode.active : Mode → Bool
  | .loading | .unvoiced => false
  | .standby | .play | .winddown | .silenced => true

/-- The two modes in which a drive stage may be energized (R79, R112). -/
def Mode.drives : Mode → Bool
  | .play | .winddown => true
  | .loading | .unvoiced | .standby | .silenced => false

/-! ### Counters (R183) -/

/-- The counters by name. -/
inductive Counter where
  | rejectedStrobes | mergedLines | notesDroppedListFull | notesDroppedFault | lateStrikes | repetitionDelays
  | forcedReleases | projectedShades | misalignedFrames | shadeFramesShed | shadeSegmentsEvicted | pedalEventsShed
  | overdrawnClaims | unannouncedStrikes | lateClaims | intakeLost | objections
deriving DecidableEq, Repr

/-- The value of a counter. -/
def Counters.get (c : Counters) : Counter → Nat
  | .rejectedStrobes => c.rejectedStrobes
  | .mergedLines => c.mergedLines
  | .notesDroppedListFull => c.notesDroppedListFull
  | .notesDroppedFault => c.notesDroppedFault
  | .lateStrikes => c.lateStrikes
  | .repetitionDelays => c.repetitionDelays
  | .forcedReleases => c.forcedReleases
  | .projectedShades => c.projectedShades
  | .misalignedFrames => c.misalignedFrames
  | .shadeFramesShed => c.shadeFramesShed
  | .shadeSegmentsEvicted => c.shadeSegmentsEvicted
  | .pedalEventsShed => c.pedalEventsShed
  | .overdrawnClaims => c.overdrawnClaims
  | .unannouncedStrikes => c.unannouncedStrikes
  | .lateClaims => c.lateClaims
  | .intakeLost => c.intakeLost
  | .objections => c.objections

/-- Replace the value of a counter. -/
def Counters.set (c : Counters) (n : Nat) : Counter → Counters
  | .rejectedStrobes => { c with rejectedStrobes := n }
  | .mergedLines => { c with mergedLines := n }
  | .notesDroppedListFull => { c with notesDroppedListFull := n }
  | .notesDroppedFault => { c with notesDroppedFault := n }
  | .lateStrikes => { c with lateStrikes := n }
  | .repetitionDelays => { c with repetitionDelays := n }
  | .forcedReleases => { c with forcedReleases := n }
  | .projectedShades => { c with projectedShades := n }
  | .misalignedFrames => { c with misalignedFrames := n }
  | .shadeFramesShed => { c with shadeFramesShed := n }
  | .shadeSegmentsEvicted => { c with shadeSegmentsEvicted := n }
  | .pedalEventsShed => { c with pedalEventsShed := n }
  | .overdrawnClaims => { c with overdrawnClaims := n }
  | .unannouncedStrikes => { c with unannouncedStrikes := n }
  | .lateClaims => { c with lateClaims := n }
  | .intakeLost => { c with intakeLost := n }
  | .objections => { c with objections := n }

/-- A counter's value after one increment: it saturates at 65,535 (R183). -/
def saturate (n : Nat) : Nat := min (n + 1) Config.counterMax

/-- Increment a counter. -/
def State.count (s : State) (i : Counter) : State :=
  s.setCounters (s.counters.set (saturate (s.counters.get i)) i)

/-- An increment of a `notes dropped` counter sets the drop mark (R61, R179). -/
def State.countDrop (s : State) (i : Counter) : State :=
  let s := s.count i
  s.setControl { s.control with dropMark := true, carriedDrop := false }

/-- An increment of `intake lost` sets the loss mark (R168, R179). -/
def State.countLoss (s : State) : State :=
  let s := s.count .intakeLost
  s.setControl { s.control with lossMark := true, carriedLoss := false }

/-! ### The note list's order (R58) -/

/-- The due time of a record. -/
def Note.due (n : Note) : Option Time :=
  match n.state with
  | .waiting => some n.armTime
  | .armed => n.strike.map Strike.fireTime
  | .sounding => n.releaseTime

/-- Records with equal due times stand by onset line relative to the current line, then by driver index (R58). DESIGN CHOICE:
the onset line of an ARMED or SOUNDING record orders it in such a tie after a roll start too, as a number relative to the new
current line (R72, notes/assumptions/53.md). -/
def Note.beforeByLine (current : Line) (a b : Note) : Bool :=
  if a.onsetLine = b.onsetLine then a.driver < b.driver
  else lineDiff a.onsetLine current < lineDiff b.onsetLine current

/-- The order of the note list. -/
def Note.before (current : Line) (a b : Note) : Bool :=
  match a.due, b.due with
  | some x, some y => if x = y then a.beforeByLine current b else earlier x y
  | some _, none => true
  | none, some _ => false
  | none, none => if a.onsetTime = b.onsetTime then a.driver < b.driver else earlier a.onsetTime b.onsetTime

/-- Place a record: before it stand the records that come before it. -/
def insertNote (current : Line) (n : Note) : List Note → List Note
  | [] => [n]
  | m :: ms => if m.before current n then m :: insertNote current n ms else n :: m :: ms

/-- Put records in list order; records that tie keep their order. -/
def sortNotes (current : Line) (ns : List Note) : List Note := ns.foldr (insertNote current) []

/-- Replace the records, each taking its place in the order (R58). -/
def State.placeNotes (s : State) (ns : List Note) : State := s.setNotes (sortNotes s.scan.line ns)

/-- Two values name the same record: its driver, onset line and onset time do not change (notes/assumptions/6.md). -/
def Note.same (n m : Note) : Bool :=
  n.driver = m.driver && n.onsetLine = m.onsetLine && n.onsetTime = m.onsetTime

/-- Change a record and put it in its place. -/
def State.changeNote (s : State) (n : Note) (f : Note → Note) : State :=
  s.placeNotes (s.notes.map fun m => if m.same n then f m else m)

/-- Remove a record. -/
def State.removeNote (s : State) (n : Note) : State := s.setNotes (s.notes.filter fun m => !m.same n)

/-- Mark a record whose due time now stands at or before `now`: it is to be reached within this event (R59). -/
def Note.mark (now : Time) (n : Note) : Note :=
  match n.due with
  | some d => { n with atOnce := reached now d && !(n.state = .sounding && n.released) }
  | none => { n with atOnce := false }

/-- The SOUNDING record of a key. -/
def State.soundingNote (s : State) (k : Driver) : Option Note :=
  s.notes.find? fun n => n.driver = k && n.state = .sounding

/-! ### Outgoing slots (R166) -/

/-- A slot that an owner may fill afresh. -/
def SlotState.free : SlotState → Bool
  | .empty | .sent | .failed | .cancelled => true
  | .queued | .sending => false

/-- Place a frame in a free slot: it becomes QUEUED with queued time now and no objected attempt (R163, R166). -/
def State.placeFrame (s : State) (i : Slot) (frame : Option Payload) : State :=
  s.setSlot i { state := .queued, frame, queuedAt := s.now, attempts := 0, cancel := none }

/-- Overwrite the frame of a slot in place (R166). -/
def State.overwriteFrame (s : State) (i : Slot) (frame : Payload) : State :=
  s.setSlot i { s.slot i with frame := some frame }

/-- Move a slot to a state; a pending cancellation ends at a change of state (R166). -/
def State.moveSlot (s : State) (i : Slot) (x : SlotState) : State :=
  s.setSlot i { s.slot i with state := x, cancel := none }

/-- A cancellation request (R166). While one is pending a second adds nothing, but one made by a change of mode lets no
fit follow (R138, notes/assumptions/25.md). -/
def State.requestCancel (s : State) (i : Slot) (kind : CancelKind) : State :=
  match (s.slot i).state with
  | .queued => s.moveSlot i .cancelled
  | .sending =>
    match (s.slot i).cancel, kind with
    | some _, .refit => s
    | _, _ => s.setSlot i { s.slot i with cancel := some kind }
  | .empty | .sent | .failed | .cancelled => s

/-! ### The intake's handling in progress (R169) -/

/-- The entry in handling whose effects are still to come. -/
def State.toHandle (s : State) : Option Entry :=
  match s.link.handling with
  | some h => if h.done then none else some h.entry
  | none => none

/-- The block an entry was handed to has done all that its rules state. -/
def State.markHandled (s : State) : State :=
  s.setLink { s.link with handling := s.link.handling.map fun h => { h with done := true } }

/-- A handling command acts on the entry in handling when it is of the command's kind. -/
def State.handle (s : State) (act : Entry → Option (State → State)) : State :=
  match s.toHandle with
  | some e =>
    match act e with
    | some f => f s.markHandled
    | none => s
  | none => s

end Sys2Proof.Machine
end

