-- ==== Sys2Proof/Machine/Frames.lean ====
section
/-! DEFINITION. The frame on the line (9.1, 9.3, 11.4): payload layouts, framing, the check, and what a receiver finds in
the bits it reads. A bit is `true` for recessive (value 1) and `false` for dominant (value 0). -/

namespace Sys2Proof.Machine

/-! ### Bits and bytes -/

/-- The bits of a word, most significant first. -/
def bitsOf {w : Nat} (x : BitVec w) : List Bool := (List.range w).map fun i => x.getLsbD (w - 1 - i)

/-- The word whose bits, most significant first, are given. -/
def wordOf (w : Nat) (bits : List Bool) : BitVec w :=
  BitVec.ofNat w (bits.foldl (fun n b => 2 * n + b.toNat) 0)

/-- A bit as a word of one bit. -/
def bit (b : Bool) : BitVec 1 := BitVec.ofBool b

/-- The bit that names a half: 0 BASS, 1 TREBLE (11.4). -/
def halfBit : Half → BitVec 1
  | .bass => 0
  | .treble => 1

/-- The half a bit names. -/
def halfOfBit (b : Bool) : Half := if b then .treble else .bass

/-- The bit that names a pedal: 0 damper, 1 shift (11.4). -/
def pedalBit : Pedal → BitVec 1
  | .damper => 0
  | .shift => 1

/-- The pedal a bit names. -/
def pedalOfBit (b : Bool) : Pedal := if b then .shift else .damper

/-! ### Payloads (11.4) -/

/-- The class of a frame (R156). -/
def Payload.class : Payload → BitVec 3
  | .halt _ => 0
  | .segment .. | .keep .. => 1
  | .pedal .. => 2
  | .claim .. => 3
  | .load _ => 4
  | .transport .. => 5
  | .notice .. => 6
  | .probe .. | .reply .. => 7

/-- The payload bytes of a frame; fill bits are 0 (R188). -/
def Payload.bytes : Payload → List Byte
  | .halt target => [target]
  | .segment h accent s0 rate level line =>
    [(0#1 ++ halfBit h ++ bit accent ++ 0#1 ++ s0.extractLsb' 8 4).cast (by decide), s0.extractLsb' 0 8, rate, level,
      line.extractLsb' 8 8, line.extractLsb' 0 8]
  | .keep h line => [(1#1 ++ halfBit h ++ 0#6).cast (by decide), line.extractLsb' 8 8, line.extractLsb' 0 8]
  | .pedal p code line =>
    [(pedalBit p ++ code ++ 0#5).cast (by decide), line.extractLsb' 8 8, line.extractLsb' 0 8]
  | .claim tag overdrawn late amount offset duration =>
    [(tag ++ bit overdrawn ++ bit late ++ 0#2).cast (by decide), amount.extractLsb' 8 8, amount.extractLsb' 0 8,
      offset, duration, 0]
  | .load value => [(0#4 ++ value.extractLsb' 8 4).cast (by decide), value.extractLsb' 0 8]
  | .transport command target argument => [command, target, argument]
  | .notice condition cause => [condition, cause]
  | .probe target item argument => [(1#1 ++ 0#3 ++ target).cast (by decide), item, argument]
  | .reply requester item condition value =>
    [(0#4 ++ requester).cast (by decide), item, condition, value.extractLsb' 16 8, value.extractLsb' 8 8,
      value.extractLsb' 0 8]

/-- A two-byte field, high byte first (11.4). -/
def pairOf (high low : Byte) : BitVec 16 := (high ++ low).cast (by decide)

/-- The payload that bytes of a class and of the right length spell; none for a length that is not the kind's (R160). -/
def payloadOf (class_ : BitVec 3) (bytes : List Byte) : Option Payload :=
  match class_.toNat, bytes with
  | 0, [target] => some (.halt target)
  | 1, [b0, b1, rate, level, high, low] =>
    if b0.getLsbD 7 then none
    else some (.segment (halfOfBit (b0.getLsbD 6)) (b0.getLsbD 5)
      ((b0.extractLsb' 0 4 ++ b1).cast (by decide)) rate level (pairOf high low))
  | 1, [b0, high, low] => if b0.getLsbD 7 then some (.keep (halfOfBit (b0.getLsbD 6)) (pairOf high low)) else none
  | 2, [b0, high, low] => some (.pedal (pedalOfBit (b0.getLsbD 7)) (b0.extractLsb' 5 2) (pairOf high low))
  | 3, [b0, high, low, offset, duration, _] =>
    some (.claim (b0.extractLsb' 4 4) (b0.getLsbD 3) (b0.getLsbD 2) (pairOf high low) offset duration)
  | 4, [b0, low] => some (.load ((b0.extractLsb' 0 4 ++ low).cast (by decide)))
  | 5, [command, target, argument] => some (.transport command target argument)
  | 6, [condition, cause] => some (.notice condition cause)
  | 7, [b0, item, argument] => if b0.getLsbD 7 then some (.probe (b0.extractLsb' 0 4) item argument) else none
  | 7, [b0, item, condition, v2, v1, v0] =>
    if b0.getLsbD 7 then none
    else some (.reply (b0.extractLsb' 0 4) item condition ((v2 ++ (v1 ++ v0)).cast (by decide)))
  | _, _ => none

/-! ### The check (R157) -/

/-- Shift one bit into the check register; the generator is x^16 + x^12 + x^5 + 1. -/
def checkStep (r : BitVec 16) (b : Bool) : BitVec 16 :=
  if r.msb != b then (r <<< 1) ^^^ 0x1021#16 else r <<< 1

/-- The check over bits in the order sent, from a register of all ones. -/
def checkOf (bits : List Bool) : BitVec 16 := bits.foldl checkStep 0xFFFF#16

/-! ### Sending (R156) -/

/-- The ten bit times of a byte: a dominant lead bit, the data bits, a recessive tail bit. -/
def framedByte (b : Byte) : List Bool := false :: (bitsOf b ++ [true])

/-- The precedence and length of a frame. -/
def headerBits (sender : StationNo) (f : Payload) : List Bool :=
  bitsOf f.class ++ bitsOf sender ++ bitsOf (BitVec.ofNat 3 f.bytes.length)

/-- The check of a frame. -/
def frameCheck (sender : StationNo) (f : Payload) : BitVec 16 :=
  checkOf (headerBits sender f ++ f.bytes.flatMap bitsOf)

/-- A frame from its start bit to the last bit of its check. -/
def encodeFrame (sender : StationNo) (f : Payload) : List Bool :=
  let check := frameCheck sender f
  false :: (headerBits sender f ++ f.bytes.flatMap framedByte ++
    framedByte (check.extractLsb' 8 8) ++ framedByte (check.extractLsb' 0 8))

/-! ### Receiving (R160) -/

/-- The bit read at a place of a frame; past the bits given the line rests recessive. -/
def bitAt (bits : List Bool) (i : Nat) : Bool := bits.getD i true

/-- The bits read at `n` places from `i` on. -/
def bitsAt (bits : List Bool) (i n : Nat) : List Bool := (List.range n).map fun j => bitAt bits (i + j)

/-- The length field. -/
def readLength (bits : List Bool) : Nat := (wordOf 3 (bitsAt bits 8 3)).toNat

/-- The class field. -/
def readClass (bits : List Bool) : BitVec 3 := wordOf 3 (bitsAt bits 1 3)

/-- The place where byte `j` of payload and check begins. -/
def byteStart (j : Nat) : Nat := 11 + 10 * j

/-- The data bits of byte `j`. -/
def readByte (bits : List Bool) (j : Nat) : Byte := wordOf 8 (bitsAt bits (byteStart j + 1) 8)

/-- The payload bytes read. -/
def readPayload (bits : List Bool) : List Byte := (List.range (readLength bits)).map (readByte bits)

/-- The place at which the length is found wrong, if it is: at the length field, or, for the classes with two kinds, at the
kind or probe bit when the length is that of the other kind (R160, R188). -/
def lengthDamage (bits : List Bool) : Option Nat :=
  let n := readLength bits
  let kind := bitAt bits (byteStart 0 + 1)
  match (readClass bits).toNat with
  | 0 => if n = 1 then none else some 10
  | 1 => if n = 6 then (if kind then some 12 else none) else if n = 3 then (if kind then none else some 12) else some 10
  | 2 | 5 => if n = 3 then none else some 10
  | 3 => if n = 6 then none else some 10
  | 4 | 6 => if n = 2 then none else some 10
  | _ => if n = 3 then (if kind then none else some 12) else if n = 6 then (if kind then some 12 else none) else some 10

/-- The first place at which a lead bit is read recessive or a tail bit dominant, over `count` bytes from byte `j` on. -/
def framingDamage (bits : List Bool) : Nat → Nat → Option Nat
  | _, 0 => none
  | j, count + 1 =>
    if bitAt bits (byteStart j) then some (byteStart j)
    else if !bitAt bits (byteStart j + 9) then some (byteStart j + 9)
    else framingDamage bits (j + 1) count

/-- The earlier of two places of damage. -/
def firstPlace : Option Nat → Option Nat → Option Nat
  | some a, some b => some (min a b)
  | some a, none => some a
  | none, b => b

/-- The check bytes read do not match the check computed over the bits read. -/
def checkDamage (bits : List Bool) : Bool :=
  let n := readLength bits
  let data := (readPayload bits).flatMap bitsOf
  checkOf (bitsAt bits 1 10 ++ data) ≠ pairOf (readByte bits n) (readByte bits (n + 1))

/-- A run of more than 9 recessive bits ends at or before place `last`. -/
def hasLongRun (bits : List Bool) (last : Nat) : Bool :=
  (List.range (last + 1 - 9)).any fun i => (bitsAt bits i 10).all id

/-- What a receiver makes of a frame (R160). -/
inductive Reading where
  | good (sender : StationNo) (f : Payload)
  | damaged
  | broken
deriving DecidableEq, Repr

/-- A receiver reads a frame: it is broken when a run of more than 9 recessive bits appears before the check ends and
before the receiver itself drives the line dominant; it is damaged by a framing bit, its length or its check. -/
def readFrame (bits : List Bool) : Reading :=
  let n := readLength bits
  let found := firstPlace (lengthDamage bits) (framingDamage bits 0 (n + 2))
  if hasLongRun bits (found.getD (byteStart (n + 2) - 1)) then .broken
  else if found.isSome || checkDamage bits then .damaged
  else
    match payloadOf (readClass bits) (readPayload bits) with
    | some f => .good (wordOf 4 (bitsAt bits 4 4)) f
    | none => .damaged

/-! ### Reading back (R162) -/

/-- The bits that a sender drives and reads back: those of its length, payload and check, which follow the start bit and the
seven bits of precedence. -/
def drivenBits (sender : StationNo) (f : Payload) : List Bool := (encodeFrame sender f).drop 8

/-- Every bit read back is the one that was sent. -/
def readsBack (sent bits : List Bool) : Bool := bitsAt bits 0 sent.length = sent

/-- A sender's own frame is objected: the sender reads a bit of its length, payload or check that it did not send and drives
the objection slot dominant, or another station drives the slot, or the delimiter is read dominant. -/
def ownObjected (sender : StationNo) (f : Payload) (bits : List Bool) (ending : ObjectionBits) : Bool :=
  let slot := ending.slot && readsBack (drivenBits sender f) bits
  !slot || !ending.delimiter

end Sys2Proof.Machine
end

