-- ==== Sys2Proof/Machine/Arithmetic.lean ====
section
/-! DEFINITION. The strike arithmetic of chapter 3, stage by stage, and the motion of a segment (R24). Every quantity is
a natural number; each quotient is rounded as its rule states. -/

namespace Sys2Proof.Machine

/-- The value of a segment at a line, from the number of lines between its start and that line, 0 to 65,535 (R24,
notes/assumptions/43.md). -/
def Segment.value (g : Segment) (line : Line) : Nat :=
  let d := (line - g.start).toNat
  if g.rate = 0 then g.s0
  else if g.s0 ≤ g.target then min g.target (g.s0 + g.rate * d)
  else max g.target (g.s0 - g.rate * d)

/-- Stage 2: the level of a shade value, with the accent amount and the trim (R43). -/
def level (shade accent : Nat) (trim : Int) : Nat :=
  (clamp ((shade / 16 : Nat) + (accent : Int) + trim) 0 255).toNat

/-- Stage 3: the curve energy of a level on the nine-knot curve (R44). -/
def curveEnergy (knots : List Nat) (level : Nat) : Nat :=
  let k := level / 32
  let f := level - 32 * k
  let low := knots.getD k 0
  low + ((knots.getD (k + 1) 0 - low) * f + 16) / 32

/-- Stage 4: the key's own trim and floor (R45). -/
def keyEnergy (r : KeyRecord) (curve : Nat) : Nat :=
  min (max ((curve * r.gain + 64) / 128) r.eMin) 1023

/-- Stage 5: the duty of an energy (R46); of E_min it is the floor duty (R41). -/
def dutyOf (r : KeyRecord) (energy : Nat) : Nat :=
  r.pMin + ((r.pMax - r.pMin) * energy + 511) / 1023

/-- The inverse: the energy that stands for a duty (R48). -/
def energyOf (r : KeyRecord) (duty : Nat) : Nat :=
  max r.eMin (((duty - r.pMin) * 1023 + (r.pMax - r.pMin) / 2) / (r.pMax - r.pMin))

/-- Stage 6: a duty and its energy under the cap in force at the arm event (R47). -/
def capAtArm (r : KeyRecord) (cap : Option Nat) (energy duty : Nat) : Nat × Nat :=
  match cap with
  | none => (energy, duty)
  | some c =>
    let capped := max r.pFloor (min duty c)
    if capped < duty then (energyOf r capped, capped) else (energy, duty)

/-- The caps applied again at the fire event (R54). -/
def capAtFire (r : KeyRecord) (cap : Option Nat) (energy duty : Nat) : Nat × Nat :=
  match cap with
  | none => (energy, duty)
  | some c =>
    if c < duty then
      let capped := max r.pFloor c
      (energyOf r capped, capped)
    else (energy, duty)

/-- Stage 7: the current at a duty, in load units (R49, R84, R110). -/
def currentAt (iFull duty : Nat) : Nat := ceilDiv (iFull * duty) 255

/-- Stage 8: the flight of an energy, µs (R50). -/
def flight (r : KeyRecord) (energy : Nat) : Nat :=
  100 * r.fSlow - (100 * (r.fSlow - r.fFast) * energy + 511) / 1023

/-- A duty compensated for the measured supply (R55, R56, R109). -/
def compensate (v : Voicing) (vMeas duty : Nat) : Nat :=
  let vc := max vMeas v.vUv
  min 255 ((duty * v.vNom + vc / 2) / vc)

/-- The target strike time of a note (R51). -/
def targetTime (v : Voicing) (onset : Time) : Time := after onset v.delay

/-- The arm time of a note (R52). -/
def armTimeOf (v : Voicing) (r : KeyRecord) (onset : Time) : Time :=
  shifted onset ((v.delay : Int) - 100 * r.fSlow - 1000 * v.margin)

/-- The planned fire time of a note at an energy (R51, R53). -/
def fireTimeOf (v : Voicing) (r : KeyRecord) (onset : Time) (energy : Nat) : Time :=
  shifted (targetTime v onset) (-(flight r energy : Int))

/-- The strike window of a note from its fire time (R64, R125). -/
def windowEndOf (r : KeyRecord) (fire : Time) : Time := after fire (100 * r.tPulse + 1000 * r.tRep)

/-- The duty a fit of an amount to a headroom gives (R127, R128). -/
def fittedDuty (r : KeyRecord) (duty headroom amount : Nat) : Nat :=
  max r.pFloor (duty * headroom / amount)

/-- What stage 9 makes of a strike at a lower duty, and whether its fire time has fallen behind now (R53). -/
def reduceStrike (v : Voicing) (r : KeyRecord) (now onset : Time) (duty : Nat) : Strike × Bool :=
  let energy := energyOf r duty
  let fire := fireTimeOf v r onset energy
  let late := earlier fire now
  ({ energy, duty, share := currentAt r.iFull duty, fireTime := if late then now else fire }, late)

/-- Stages 3 to 8 from a note's level and the cap in force, and whether the fire time is already past (R42, R51). -/
def computeStrike (v : Voicing) (r : KeyRecord) (now onset : Time) (cap : Option Nat) (lvl : Nat) : Strike × Bool :=
  let e := keyEnergy r (curveEnergy v.knots lvl)
  let capped := capAtArm r cap e (dutyOf r e)
  let fire := fireTimeOf v r onset capped.1
  let late := earlier fire now
  ({ energy := capped.1, duty := capped.2, share := currentAt r.iFull capped.2,
     fireTime := if late then now else fire }, late)

/-- The base duty at step `n` of a ramp: the quotient is truncated toward zero (R107). -/
def Ramp.duty (r : Ramp) (n : Nat) : Nat :=
  ((r.d0 : Int) + Int.tdiv (((r.target : Int) - r.d0) * n) r.steps).toNat

end Sys2Proof.Machine
end

