-- ==== Sys2Proof/Machine/Operands.lean ====
section
/-! DEFINITION. The store image as an operand of STORE_READ: the fields of 11.4, the clamps of R185, the orders of R186,
the track table checks of R187, and the derived values of R41. -/

namespace Sys2Proof.Machine

/-! ### Fields -/

/-- A byte of the image. -/
def imageByte (image : List Byte) (offset : Nat) : Nat := (image.getD offset 0).toNat

/-- A two-byte field, high byte first. -/
def imageWord (image : List Byte) (offset : Nat) : Nat :=
  256 * imageByte image offset + imageByte image (offset + 1)

/-- A value brought into its range: raised to the lower end, lowered to the upper end (R185). -/
def inRange (low high x : Nat) : Nat := min (max x low) high

/-- A role field: 0..15 names a station, any other value none (R185). -/
def roleOf (x : Nat) : Option StationNo := if x < 16 then some (BitVec.ofNat 4 x) else none

/-- The deglitch time of a choice code, µs (R185). -/
def deglitchOf (code : Nat) : Nat :=
  match code with
  | 0 => 5
  | 1 => 10
  | 2 => 20
  | _ => 40

/-- The knots brought into range and made nondecreasing, each raised to the one before it (R185, R186 step 2). -/
def orderKnots : Nat → List Nat → List Nat
  | _, [] => []
  | low, x :: xs => max low x :: orderKnots (max low x) xs

/-- The knots of an image. -/
def readKnots (image : List Byte) : List Nat :=
  orderKnots 0 ((List.range 9).map fun i => inRange 0 1023 (imageWord image (0x14 + 2 * i)))

/-- The per-half parameters from their first offset. -/
def readHalf (image : List Byte) (base : Nat) : HalfVoicing where
  targets := (List.range 8).map fun i => imageByte image (base + i)
  slow := inRange 1 255 (imageByte image (base + 8))
  fast := inRange 1 255 (imageByte image (base + 9))
  default := imageByte image (base + 10)
  accent := inRange 0 127 (imageByte image (base + 11))

/-! ### Key records -/

/-- The key record of a driver, clamped (R185), with the orders of R186 steps 3 to 5 made good. -/
def readKey (image : List Byte) (k : Driver) : KeyRecord :=
  let at_ := fun offset => imageByte image (0x9F + 20 * k.val + offset)
  let wordAt := fun offset => imageWord image (0x9F + 20 * k.val + offset)
  let pMin := inRange 1 254 (at_ 0x04)
  let fSlow := inRange 10 1000 (wordAt 0x09)
  let tReturn := inRange 5 100 (at_ 0x10)
  let r : KeyRecord :=
    { number := inRange 0 87 (at_ 0x00)
      eMin := inRange 0 1023 (wordAt 0x01)
      gain := inRange 64 191 (at_ 0x03)
      pMin
      pMax := max (inRange 2 255 (at_ 0x05)) (pMin + 1)
      iFull := inRange 1 255 (at_ 0x06)
      tPulse := inRange 20 400 (wordAt 0x07)
      fSlow
      fFast := min (inRange 10 1000 (wordAt 0x0B)) fSlow
      pHold := at_ 0x0D
      pCool := at_ 0x0E
      relLead := inRange 0 50 (at_ 0x0F)
      tReturn
      tRep := min (inRange 1 100 (at_ 0x11)) tReturn
      enabled := at_ 0x12 % 2 = 1
      pFloor := 0 }
  { r with pFloor := dutyOf r r.eMin }

/-! ### Track table (R187) -/

/-- The function a code and an argument name; codes 11 to 15 and a NOTE argument of 12 or more read as UNUSED. -/
def functionOf (code argument : Nat) : TrackFunction :=
  let h := halfOfArgument argument
  match code with
  | 1 => if hk : argument < 12 then .note ⟨argument, hk⟩ else .unused
  | 2 => .level1 h
  | 3 => .level2 h
  | 4 => .level4 h
  | 5 => .swell h
  | 6 => .accent h
  | 7 => .hush h
  | 8 => .sustain
  | 9 => .halfdamp
  | 10 => .soft
  | _ => .unused
where
  /-- Bit 0 of the argument gives the half. -/
  halfOfArgument (argument : Nat) : Half := if argument % 2 = 1 then .treble else .bass

/-- A track entry checked on its own, for a head of `cells` cells. DESIGN CHOICE: an entry made UNUSED by its cell a holds
index 0 there, which no rule reads (notes/assumptions/48.md). -/
def readTrack (image : List Byte) (cells : Nat) (i : Fin 24) : TrackEntry :=
  let base := 0x57 + 3 * i.val
  let a := imageByte image base
  let b := imageByte image (base + 1)
  let code := imageByte image (base + 2)
  { cellA := if a < cells then a else 0
    cellB := if b < cells then some b else none
    function := if a < cells then functionOf (code / 16) (code % 16) else .unused }

/-- A driver is already named by an earlier NOTE entry. -/
def namedEarlier (image : List Byte) (cells : Nat) (i : Fin 24) (k : Driver) : Bool :=
  (List.finRange 24).any fun j => j < i && (readTrack image cells j).function = .note k

/-- A track entry after the check for duplicate NOTE entries: the earlier entry keeps the driver. -/
def checkTrack (image : List Byte) (cells : Nat) (i : Fin 24) : TrackEntry :=
  let e := readTrack image cells i
  match e.function with
  | .note k => if namedEarlier image cells i k then { e with function := .unused } else e
  | _ => e

/-! ### The voicing -/

/-- The greatest slowest flight plus margin over the enabled keys, µs; 0 when no key is enabled (R41). -/
def slowestStart (keys : Vector KeyRecord 12) (margin : Nat) : Nat :=
  keys.toList.foldl (fun m r => if r.enabled then max m (100 * r.fSlow + 1000 * margin) else m) 0

/-- The voicing that an image with the right format code spells (R185 to R187, R41). -/
def readVoicing (image : List Byte) : Voicing :=
  let byte := imageByte image
  let word := imageWord image
  let cells := inRange 1 48 (byte 0x07)
  let tClose := inRange 0 254 (byte 0x09)
  let vNom := inRange 100 1000 (word 0x41)
  let vOvw := max (inRange 101 1022 (word 0x45)) (vNom + 1)
  let iOpen := inRange 1 1022 (word 0x4F)
  let margin := inRange 2 20 (byte 0x13)
  let keys : Vector KeyRecord 12 := Vector.ofFn (readKey image)
  { splitKey := inRange 0 88 (byte 0x02)
    bassAuthority := roleOf (byte 0x03)
    trebleAuthority := roleOf (byte 0x04)
    pedalSource := roleOf (byte 0x05)
    pedalDrive := roleOf (byte 0x06)
    cells
    tOpen := max (inRange 1 255 (byte 0x08)) (tClose + 1)
    tClose
    kOpen := inRange 1 8 (byte 0x0A)
    kClose := inRange 1 8 (byte 0x0B)
    tLmin := inRange 100 5000 (word 0x0C)
    tLmax := inRange 20 2000 (word 0x0E)
    tHold := inRange 0 5000 (word 0x10)
    delay := max (1000 * inRange 20 250 (byte 0x12)) (slowestStart keys margin)
    margin
    knots := readKnots image
    bass := readHalf image 0x26
    treble := readHalf image 0x32
    supplyLimit := inRange 1 4095 (word 0x3E)
    reserve := byte 0x40
    vNom
    vUv := min (inRange 1 1022 (word 0x43)) (vNom - 1)
    vOvw
    vOvs := max (inRange 102 1023 (word 0x47)) (vOvw + 1)
    uvLatched := byte 0x49 % 2 = 1
    ovsLatched := byte 0x49 / 2 % 2 = 1
    thermalGlobal := byte 0x49 / 4 % 2 = 1
    pOvcap := byte 0x4A
    pHotcap := byte 0x4B
    deglitch := deglitchOf (byte 0x4C)
    iTrip := max (inRange 2 1023 (word 0x4D)) (iOpen + 1)
    iOpen
    pedalLead := inRange 0 100 (byte 0x51)
    tRamp := inRange 0 200 (byte 0x52)
    pHalf := byte 0x53
    pDown := byte 0x54
    pShift := byte 0x55
    iFullPedal := inRange 1 255 (byte 0x56)
    tracks := Vector.ofFn (checkTrack image cells)
    keys }

/-- One sequential read of the store succeeds when every byte of the image was acknowledged (R184). -/
def readSucceeds (acknowledged : List Byte) : Bool := Config.imageBytes ≤ acknowledged.length

/-- The image that the read and its one retry give; none when the store counts as absent (R184). -/
def storeImage (first second : List Byte) : Option (List Byte) :=
  if readSucceeds first then some first
  else if readSucceeds second then some second
  else none

/-- The format code of an image is the one the table of 11.4 gives. -/
def formatRight (image : List Byte) : Bool := imageWord image 0 = Config.formatCode

end Sys2Proof.Machine
end

