-- ==== Sys2Proof/Machine/Flags.lean ====
section
/-! DEFINITION. What the blocks read off the protection state, the condition byte with its five indications, and the
NOTICE that each change of the byte queues (R79, R148 to R153, R179, R180). -/

namespace Sys2Proof.Machine

/-! ### What protection has in force -/

/-- Supply hold-off is in force (R149). -/
def State.holdOff (s : State) : Bool :=
  (s.prot.uv.present && !s.store.uvLatched) || (s.prot.ovs.present && !s.store.ovsLatched)

/-- The level of a cluster. -/
def State.levelOf (s : State) (cl : Cluster) : Level := (s.prot.clusters.get cl).level

/-- A cluster is in thermal shutdown (R152). -/
def State.isShut (s : State) (cl : Cluster) : Bool := s.levelOf cl = .shutdown

/-- The rank of a thermal level, NORMAL lowest. -/
def Level.rank : Level → Nat
  | .normal => 0
  | .warm => 1
  | .hot => 2
  | .shutdown => 3

/-- A cluster stands at WARM or above, so its holds take p_cool (R84, R151). -/
def State.isWarm (s : State) (cl : Cluster) : Bool := 1 ≤ (s.levelOf cl).rank

/-- The smaller of the caps in force for a key's notes, if any (R47, R148, R151). -/
def State.capFor (s : State) (k : Driver) : Option Nat :=
  let ov := s.prot.ovw.present
  let hot := decide (2 ≤ (s.levelOf (clusterOf k)).rank)
  if ov && hot then some (min s.store.pOvcap s.store.pHotcap)
  else if ov then some s.store.pOvcap
  else if hot then some s.store.pHotcap
  else none

/-- A key's strike request is dropped, whatever its stroke state (R91). -/
def State.dropsStrike (s : State) (k : Driver) : Bool :=
  (s.key k).stroke = .faulted || s.isShut (clusterOf k) || s.holdOff

/-- A pedal may be energized, the mode apart (R112). -/
def State.pedalAllowed (s : State) (p : Pedal) : Bool :=
  !((s.pedal p).state = .faulted) && !s.isShut .p && !s.holdOff

/-- A station-level cause stands in the latched fault set (R153). -/
def State.stationCause (s : State) : Bool :=
  s.prot.uvFault || s.prot.ovsFault || s.prot.halt ||
    (s.store.thermalGlobal && (s.isShut .a || s.isShut .b || s.isShut .c || s.isShut .p))

/-! ### The condition byte (R179) -/

/-- The clusters, in order. -/
def Cluster.all : List Cluster := [.a, .b, .c, .p]

/-- FAULT: the latched fault set holds any fault (R153). -/
def State.faultIndication (s : State) : Bool :=
  s.prot.uvFault || s.prot.ovsFault || s.prot.halt || Cluster.all.any s.isShut ||
    ((List.finRange 12).any fun k => (s.key k).stroke = .faulted) ||
    (s.pedal .damper).state = .faulted || (s.pedal .shift).state = .faulted

/-- WARN: any warning is present (R153). -/
def State.warnIndication (s : State) : Bool :=
  s.prot.uvWarning || s.prot.ovsWarning || s.prot.ovw.present ||
    ((List.finRange 12).any fun k => (s.key k).openWarning) ||
    Cluster.all.any fun cl => s.levelOf cl = .warm || s.levelOf cl = .hot

/-- SUPPLY: any supply condition is PRESENT (R153). -/
def State.supplyIndication (s : State) : Bool :=
  s.prot.uv.present || s.prot.ovw.present || s.prot.ovs.present

/-- LINK: the station is muted or the loss mark is set (R179). -/
def State.linkIndication (s : State) : Bool := s.link.muted || s.control.lossMark

/-- SCHED: the drop mark is set (R179). -/
def State.schedIndication (s : State) : Bool := s.control.dropMark

/-- The code of a mode (R179). -/
def Mode.code : Mode → Nat
  | .loading => 0
  | .unvoiced => 1
  | .standby => 2
  | .play => 3
  | .winddown => 4
  | .silenced => 5

/-- The weight of an indication in the condition byte. -/
def flag (b : Bool) (weight : Nat) : Nat := if b then weight else 0

/-- The condition byte: b7–b5 mode code, then FAULT, WARN, SUPPLY, LINK and SCHED (11.4). -/
def State.conditionByte (s : State) : Byte :=
  BitVec.ofNat 8 (32 * s.mode.code + flag s.faultIndication 16 + flag s.warnIndication 8 +
    flag s.supplyIndication 4 + flag s.linkIndication 2 + flag s.schedIndication 1)

/-! ### Notices (R180) -/

/-- The kind of event that made a change of the condition byte (R180). -/
inductive Cause where
  | mode | fault | openLoad | supply | thermal | cleared | link | drop | report
deriving DecidableEq, Repr

/-- The cause code of R180. -/
def Cause.code : Cause → Byte
  | .mode => 1
  | .fault => 2
  | .openLoad => 3
  | .supply => 4
  | .thermal => 5
  | .cleared => 6
  | .link => 7
  | .drop => 8
  | .report => 9

/-- Queue a NOTICE carrying the present byte: into a free slot, over a queued frame, or as the held notice (R180). -/
def State.queueNotice (s : State) (cause : Cause) : State :=
  let frame := Payload.notice s.conditionByte cause.code
  match (s.slot .notice).state with
  | .queued => s.overwriteFrame .notice frame
  | .sending =>
    s.setControl { s.control with heldNotice := some { condition := s.conditionByte, cause := cause.code } }
  | .empty | .sent | .failed | .cancelled => s.placeFrame .notice (some frame)

/-- Queue a NOTICE when an event has changed the condition byte, in the modes that queue one (R180). -/
def State.notify (before : State) (cause : Cause) (s : State) : State :=
  if s.mode.active && s.conditionByte ≠ before.conditionByte then s.queueNotice cause else s

/-- The cause of a change made by an event of the link: a change of mode, of mute or of the loss mark, report marks cleared
by a reply, or else the drop mark set (R180, notes/assumptions/14.md). -/
def linkCause (before s : State) : Cause :=
  if s.mode ≠ before.mode then .mode
  else if s.link.muted ≠ before.link.muted || (s.control.lossMark && !before.control.lossMark) then .link
  else if (before.control.lossMark && !s.control.lossMark) || (before.control.dropMark && !s.control.dropMark) then
    .report
  else .drop

/-! ### Quiescence (R176) -/

/-- Nothing is left in motion: keys in REST or FAULTED, pedals RESTING or FAULTED, no claim slot QUEUED or SENDING. -/
def State.quiescent (s : State) : Bool :=
  ((List.finRange 12).all fun k => (s.key k).stroke = .rest || (s.key k).stroke = .faulted) &&
    ((s.pedal .damper).state = .resting || (s.pedal .damper).state = .faulted) &&
    ((s.pedal .shift).state = .resting || (s.pedal .shift).state = .faulted) &&
    (s.slot (.claim .a)).state.free && (s.slot (.claim .b)).state.free

/-- A winding-down station that is quiescent leaves WINDDOWN for STANDBY (R176). -/
def State.settleMode (s : State) : State :=
  if s.mode = .winddown && s.quiescent then s.setMode .standby else s

/-! ### The frame of an event -/

/-- An event at a station time: the timebase reaches it and the blocks act. -/
def State.event (s : State) (t : Time) (act : State → State) : State := act (s.setNow t)

/-- An event that may change the condition byte: a change queues a NOTICE with the event's cause (R180). -/
def State.noticedEvent (s : State) (t : Time) (cause : Cause) (act : State → State) : State :=
  State.notify s cause (s.event t act)

end Sys2Proof.Machine
end

