-- ==== Sys2Proof/Machine/Share.lean ====
section
/-! DEFINITION. The supply share unit (chapter 7): standing load and LOAD frames, the peer load table, headroom, claims and
their fitting. Rechecks stand in Claims.lean, since a fit they make can send a note to fire at once. -/

namespace Sys2Proof.Machine

/-! ### Standing load and LOAD frames (R115 to R117) -/

/-- Queue a LOAD frame carrying the own standing load: into a free slot, over a queued frame, or as the held value
(R116, R117). -/
def State.queueLoad (s : State) : State :=
  let s := s.setShare { s.share with lastLoad := some { value := s.share.ownLoad, time := s.now } }
  let frame := Payload.load (fieldOf 12 s.share.ownLoad)
  match (s.slot .load).state with
  | .queued => s.overwriteFrame .load frame
  | .sending => s.setShare { s.share with heldLoad := some s.share.ownLoad }
  | .empty | .sent | .failed | .cancelled => s.placeFrame .load (some frame)

/-- The own standing load differs from the value of the last LOAD queued by 4 or more (R116). -/
def State.loadMoved (s : State) : Bool :=
  match s.share.lastLoad with
  | none => false
  | some m => m.value + Config.loadStep ≤ s.share.ownLoad || s.share.ownLoad + Config.loadStep ≤ m.value

/-- One of the station's holds changes its current: the own standing load changes with it, and a LOAD is queued when it
has moved far enough, in the modes that queue one (R115, R116). -/
def State.changeLoad (s : State) (old new : Nat) : State :=
  if old = new then s
  else
    let s := s.setShare { s.share with ownLoad := s.share.ownLoad + new - old }
    if s.mode.active && s.loadMoved then s.queueLoad else s

/-! ### The peer load table (R118, R120, R122) -/

/-- The records of an entry that have not expired (R122). -/
def liveClaims (now : Time) (rs : List ClaimRecord) : List ClaimRecord := rs.filter fun r => !reached now r.stop

/-- Replace the entry of a peer. -/
def State.setPeer (s : State) (n : StationNo) (x : Peer) : State :=
  s.setShare { s.share with peers := s.share.peers.set n.toNat x n.isLt }

/-- The entry of a peer. -/
def State.peer (s : State) (n : StationNo) : Peer := s.share.peers[n.toNat]

/-- Remove the expired claim records and an expired departed claim: the unit uses every entry when it reckons (R122). -/
def State.purge (s : State) : State :=
  s.setShare
    { s.share with
      peers := Vector.ofFn fun i : Fin 16 =>
        { s.share.peers[i] with claims := liveClaims s.now s.share.peers[i].claims }
      ownClaims := liveClaims s.now s.share.ownClaims
      departed := s.share.departed.filter fun d => !reached s.now d.windowEnd }

/-- The place of the record with the latest end, the one added last among equals (R120). -/
def latestEnd : List ClaimRecord → Nat
  | [] => 0
  | [_] => 0
  | r :: rs =>
    let j := latestEnd rs
    match rs[j]? with
    | some r' => if earlier r'.stop r.stop then 0 else j + 1
    | none => 0

/-- The merge of a claim into a record (R120). -/
def mergeClaim (new old : ClaimRecord) : ClaimRecord where
  tag := new.tag
  amount := old.amount + new.amount
  start := earlierOf old.start new.start
  stop := laterOf old.stop new.stop

/-- Record a claim among an entry's records: added, or merged into the one with the latest end when 4 are held (R120). -/
def recordClaim (now : Time) (new : ClaimRecord) (rs : List ClaimRecord) : List ClaimRecord :=
  let live := liveClaims now rs
  if live.length < Config.claimRecords then live ++ [new]
  else live.modify (latestEnd live) (mergeClaim new)

/-! ### Headroom (R123) -/

/-- The amounts of the unexpired records whose interval overlaps a window. -/
def claimsOver (now start stop : Time) (rs : List ClaimRecord) : Nat :=
  ((liveClaims now rs).filter fun r => overlaps r.start r.stop start stop).foldl (fun n r => n + r.amount) 0

/-- What a present peer adds to the demand: its standing load and its claims over the window. -/
def Peer.demand (now start stop : Time) (p : Peer) : Nat :=
  (if p.present then p.load else 0) + claimsOver now start stop p.claims

/-- A claim slot counts among the own other claims: it is QUEUED or SENDING and its window overlaps. -/
def State.slotDemand (s : State) (start stop : Time) (c : ClaimId) : Nat :=
  match (s.claimSlot c).claim with
  | some x =>
    if !(s.slot (.claim c)).state.free && overlaps x.windowStart x.windowEnd start stop then x.amount else 0
  | none => 0

/-- The departed claim's part of the demand. -/
def State.departedDemand (s : State) (start stop : Time) : Nat :=
  match s.share.departed with
  | some d =>
    if !reached s.now d.windowEnd && overlaps d.windowStart d.windowEnd start stop then d.amount else 0
  | none => 0

/-- The station's demand over a window, the slot being fitted left out (R123). -/
def State.demand (s : State) (start stop : Time) (fitting : Option ClaimId) : Nat :=
  s.share.peers.toList.foldl (fun n p => n + p.demand s.now start stop) 0
    + s.share.ownLoad
    + claimsOver s.now start stop s.share.ownClaims
    + (if fitting = some .a then 0 else s.slotDemand start stop .a)
    + (if fitting = some .b then 0 else s.slotDemand start stop .b)
    + s.departedDemand start stop

/-- The headroom over a window (R123). -/
def State.headroom (s : State) (start stop : Time) (fitting : Option ClaimId) : Nat :=
  s.store.supplyLimit - s.store.reserve - s.demand start stop fitting

/-! ### Members (R124) -/

/-- A note is a member of the claim a slot carries: its tag names the slot and the claim's tag. -/
def State.isMember (s : State) (c : ClaimId) (n : Note) : Bool :=
  match (s.claimSlot c).claim with
  | some x => n.claimTag = some { slot := c, tag := x.tag }
  | none => false

/-- The sum of the members' claim shares as they now stand. -/
def State.memberShares (s : State) (c : ClaimId) : Nat :=
  (s.notes.filter (s.isMember c)).foldl (fun n m => n + (m.strike.map Strike.share).getD 0) 0

/-- Change the claim that a slot carries. -/
def State.changeClaim (s : State) (c : ClaimId) (f : Claim → Claim) : State :=
  s.setClaimSlot { s.claimSlot c with claim := (s.claimSlot c).claim.map f } c

/-- Mark a claim overdrawn, counting it when it was not already marked (R128, R133). -/
def State.markOverdrawn (s : State) (c : ClaimId) : State :=
  match (s.claimSlot c).claim with
  | some x => if x.overdrawn then s else (s.changeClaim c fun x => { x with overdrawn := true }).count .overdrawnClaims
  | none => s

/-! ### Fitting (R127 to R129, R53) -/

/-- A fit gives an ARMED note a duty: stage 9 runs when it is lower than its present duty (R53). The flag says that the
note is marked late. -/
def refitNote (v : Voicing) (now : Time) (headroom amount : Nat) (n : Note) : Note × Bool :=
  match n.strike with
  | some k =>
    let r := v.key n.driver
    let duty := fittedDuty r k.duty headroom amount
    if duty < k.duty then
      let x := reduceStrike v r now n.onsetTime duty
      ({ n with strike := some x.1 }.mark now, x.2)
    else (n, false)
  | none => (n, false)

/-- Count `late strikes` so many times. -/
def State.countLate (s : State) : Nat → State
  | 0 => s
  | k + 1 => (s.count .lateStrikes).countLate k

/-- A note that a fit of a claim reaches: a member still ARMED. -/
def State.isFitted (s : State) (c : ClaimId) (n : Note) : Bool := s.isMember c n && n.state = .armed

/-- Lower the duties of a claim's ARMED members in proportion (R128). -/
def State.reduceMembers (s : State) (c : ClaimId) (headroom amount : Nat) : State :=
  let v := s.store
  let late := s.notes.filter fun n => s.isFitted c n && (refitNote v s.now headroom amount n).2
  let s := s.placeNotes
    (s.notes.map fun n => if s.isFitted c n then (refitNote v s.now headroom amount n).1 else n)
  s.countLate late.length

/-- The earliest fire time of a claim's ARMED members and a given time (R129). -/
def State.earliestFire (s : State) (c : ClaimId) (start : Time) : Time :=
  (s.notes.filter (s.isFitted c)).foldl
    (fun t n => match n.strike with | some k => earlierOf t k.fireTime | none => t) start

/-- Write the claim's window end into the records of its ARMED members, after each fit (R57, R124). -/
def State.stampWindowEnd (s : State) (c : ClaimId) : State :=
  match (s.claimSlot c).claim with
  | some x => s.setNotes (s.notes.map fun n => if s.isFitted c n then { n with windowEnd := some x.windowEnd } else n)
  | none => s

/-- Fit the claim of a slot to the headroom over its window (R128, R129). -/
def State.fit (s : State) (c : ClaimId) : State :=
  match (s.claimSlot c).claim with
  | none => s
  | some x =>
    let s := s.purge
    let h := s.headroom x.windowStart x.windowEnd (some c)
    if x.amount ≤ h then s.stampWindowEnd c
    else
      let s := s.reduceMembers c h x.amount
      let amount := s.memberShares c
      let s := s.changeClaim c fun x =>
        { x with amount, windowStart := s.earliestFire c x.windowStart }
      let s := if h < amount then s.markOverdrawn c else s
      s.stampWindowEnd c

/-! ### Placement (R125 to R127) -/

/-- A claim slot can be joined by a note of a window: it is QUEUED and the gap between the windows is 2,000 µs or less. -/
def State.joinable (s : State) (c : ClaimId) (start stop : Time) : Bool :=
  match (s.claimSlot c).claim with
  | some x =>
    (s.slot (.claim c)).state = .queued &&
      timeDiff x.windowStart stop ≤ Config.joinGap && timeDiff start x.windowEnd ≤ Config.joinGap
  | none => false

/-- CLAIM-A was queued no later than CLAIM-B, so it is taken first (R125, R130, R167). DESIGN CHOICE outside R167: at equal
queued times CLAIM-A is taken as queued first (notes/assumptions/46.md). -/
def State.claimAFirst (s : State) : Bool :=
  !earlier (s.slot (.claim .b)).queuedAt (s.slot (.claim .a)).queuedAt

/-- The slot whose claim a note joins, the one queued first when both are joinable (R125). -/
def State.joinSlot (s : State) (start stop : Time) : Option ClaimId :=
  match s.joinable .a start stop, s.joinable .b start stop with
  | true, true => some (if s.claimAFirst then .a else .b)
  | true, false => some .a
  | false, true => some .b
  | false, false => none

/-- The free slot that a note takes: CLAIM-A when it is free, and CLAIM-B otherwise (R126). -/
def State.freeSlot (s : State) : Option ClaimId :=
  if (s.slot (.claim .a)).state.free then some .a
  else if (s.slot (.claim .b)).state.free then some .b
  else none

/-- Join a claim: the amount grows by the share and the window covers both (R125). -/
def Claim.join (x : Claim) (share : Nat) (start stop : Time) : Claim :=
  { x with amount := x.amount + share, windowStart := earlierOf x.windowStart start, windowEnd := laterOf x.windowEnd stop }

/-- Every record that names a slot has its claim tag set to none when the slot takes a new claim (R124). -/
def State.forgetSlot (s : State) (c : ClaimId) : State :=
  s.setNotes (s.notes.map fun n =>
    match n.claimTag with
    | some g => if g.slot = c then { n with claimTag := none } else n
    | none => n)

/-- A slot takes a new claim: its tag counter steps and the slot becomes QUEUED (R124, R126). -/
def State.formClaim (s : State) (c : ClaimId) (share : Nat) (start stop : Time) : State :=
  let s := s.forgetSlot c
  let tag := (s.claimSlot c).counter + 1
  let s := s.setClaimSlot
    { counter := tag
      claim := some { tag, amount := share, windowStart := start, windowEnd := stop, overdrawn := false, late := false } } c
  s.placeFrame (.claim c) none

/-- Write a claim slot and its present tag into a record. -/
def State.tagNote (s : State) (n : Note) (c : ClaimId) : State :=
  match (s.claimSlot c).claim with
  | some x => s.changeNote n fun m => { m with claimTag := some { slot := c, tag := x.tag }, windowEnd := some x.windowEnd }
  | none => s

/-- Fit an unannounced note alone to the headroom over its own window (R127). -/
def State.fitAlone (s : State) (n : Note) (k : Strike) (stop : Time) : State :=
  let s := s.purge
  let h := s.headroom k.fireTime stop none
  if h < k.share then
    let v := s.store
    let late := (refitNote v s.now h k.share { n with strike := some k }).2
    let s := s.changeNote n fun m => (refitNote v s.now h k.share m).1
    s.countLate (if late then 1 else 0)
  else s

/-- Place the claim share of a note just armed (R64, R125 to R127). -/
def State.placeClaim (s : State) (n : Note) (k : Strike) : State :=
  let stop := windowEndOf (s.store.key n.driver) k.fireTime
  match s.joinSlot k.fireTime stop with
  | some c =>
    let s := s.changeClaim c fun x => x.join k.share k.fireTime stop
    (s.tagNote n c).fit c
  | none =>
    match s.freeSlot with
    | some c => ((s.formClaim c k.share k.fireTime stop).tagNote n c).fit c
    | none =>
      let s := s.count .unannouncedStrikes
      let s := s.changeNote n fun m => { m with claimTag := none, windowEnd := none, unannounced := true }
      s.fitAlone n k stop

/-! ### Members leaving and striking (R135 to R137) -/

/-- A slot still carries the claim that a tag names. -/
def State.tagLive (s : State) (g : ClaimTag) : Bool :=
  match (s.claimSlot g.slot).claim with
  | some x => x.tag = g.tag
  | none => false

/-- A member note whose record has been removed before it fired leaves its claim (R135). -/
def State.leaveClaim (s : State) (n : Note) : State :=
  match n.claimTag, n.strike with
  | some g, some k =>
    if s.tagLive g && (s.slot (.claim g.slot)).state = .queued then
      let s := s.changeClaim g.slot fun x => { x with amount := x.amount - k.share }
      if s.notes.any (s.isMember g.slot) then s else s.requestCancel (.claim g.slot) .final
    else s
  | _, _ => s

/-- A member note fires while its claim is not yet delivered: the claim is late (R136). -/
def State.lateClaim (s : State) (n : Note) : State :=
  match n.claimTag with
  | some g =>
    if s.tagLive g && !(s.slot (.claim g.slot)).state.free then
      (s.changeClaim g.slot fun x => { x with late := true }).count .lateClaims
    else s
  | none => s

/-- The window end a deferred pulse is compared with: the slot's while the record names its claim, else the record's own
(R137). -/
def State.comparedEnd (s : State) (n : Note) : Option Time :=
  match n.claimTag with
  | some g => if s.tagLive g then (s.claimSlot g.slot).claim.map Claim.windowEnd else n.windowEnd
  | none => n.windowEnd

/-- A deferred pulse that ends after its claim's window counts as a late claim; that of an unannounced note is not compared
(R137). -/
def State.compareDeferred (s : State) (n : Note) (fire : Time) : State :=
  match s.comparedEnd n with
  | some stop =>
    if !n.unannounced && earlier stop (after fire (100 * (s.store.key n.driver).tPulse)) then s.count .lateClaims else s
  | none => s

end Sys2Proof.Machine
end

