-- ==== Sys2Proof/Machine/Keys.lean ====
section
/-! DEFINITION. The key drive bank (chapter 5): the motions of a stroke machine, with the records and the standing load
that go with them, and the commands PULSE_END and RETURN_END. -/

namespace Sys2Proof.Machine

/-! ### Records that leave the list (R68, R70, R73, R74) -/

/-- Remove a record whose note cannot sound, at a fault or a drop: a WAITING or ARMED one is counted, and an ARMED one
leaves its claim; a SOUNDING one is not counted. -/
def State.dropNote (s : State) (n : Note) : State :=
  let s := s.removeNote n
  match n.state with
  | .waiting => s.countDrop .notesDroppedFault
  | .armed => (s.countDrop .notesDroppedFault).leaveClaim n
  | .sounding => s

/-- Drop every record that a fault or a shutdown reaches (R73, R74). DESIGN CHOICE: one at a time in list order
(notes/assumptions/52.md). -/
def State.dropNotes (s : State) (p : Note → Bool) : State := (s.notes.filter p).foldl State.dropNote s

/-- Remove the SOUNDING record of a key (R70). -/
def State.removeSounding (s : State) (k : Driver) : State :=
  s.setNotes (s.notes.filter fun n => !(n.driver = k && n.state = .sounding))

/-! ### The stroke machine (R81 to R85) -/

/-- A stroke drives its coil in STRIKE and in HOLD (R79). -/
def Stroke.driven : Stroke → Bool
  | .strike .. | .hold .. => true
  | .rest | .returning _ | .faulted => false

/-- Turn a key's coil off into a stroke state: both monitor runs are abandoned, no current flows, and the hold current
leaves the standing load (R85, R93, R94, R96). -/
def State.coilOff (s : State) (k : Driver) (x : Stroke) : State :=
  let key := s.key k
  let s := s.setKey k { key with stroke := x, holdCurrent := 0, overRun := none, openRun := none, lowCurrent := true }
  s.changeLoad key.holdCurrent 0

/-- A key enters RETURN: its coil goes off and its SOUNDING record is removed (R85, R70). -/
def State.enterReturn (s : State) (k : Driver) : State := (s.coilOff k (.returning s.now)).removeSounding k

/-- The base hold duty of a key: p_cool while its cluster stands at WARM or above (R84). -/
def State.baseHold (s : State) (k : Driver) : Nat :=
  if s.isWarm (clusterOf k) then (s.store.key k).pCool else (s.store.key k).pHold

/-- The applied duty of a base duty under the held supply value (R56). -/
def State.applied (s : State) (base : Nat) : Nat := compensate s.store s.conv.vMeas base

/-- Hold a key at the base duty now in force: its hold current follows, and an applied duty of 0 ends an open-load run
(R84, R94, R95). -/
def State.holdKey (s : State) (k : Driver) (openRun : Option Time) : State :=
  let key := s.key k
  let base := s.baseHold k
  let applied := s.applied base
  let current := currentAt (s.store.key k).iFull base
  let s := s.setKey k
    { key with stroke := .hold base applied, holdCurrent := current, openRun := if applied = 0 then none else openRun }
  s.changeLoad key.holdCurrent current

/-- A key enters HOLD at its pulse end: the overcurrent run carries on, and an open-load run starts when its current stands
below I_open (R84, R92, R94). -/
def State.enterHold (s : State) (k : Driver) : State :=
  s.holdKey k (if (s.key k).lowCurrent then some s.now else none)

/-- A change of warmth reaches a key: one in HOLD takes the other base hold duty (R95). -/
def State.rewarmKey (s : State) (k : Driver) : State :=
  match (s.key k).stroke with
  | .hold .. => s.holdKey k (s.key k).openRun
  | _ => s

/-- A completed supply sample reaches a key: one in HOLD has its applied duty recomputed (R95, R56). -/
def State.recompensateKey (s : State) (k : Driver) : State :=
  match (s.key k).stroke with
  | .hold base _ =>
    let key := s.key k
    let applied := s.applied base
    s.setKey k { key with stroke := .hold base applied, openRun := if applied = 0 then none else key.openRun }
  | _ => s

/-- Protection turns a key's coil off: one in STRIKE or HOLD enters RETURN (R95). -/
def State.cutKey (s : State) (k : Driver) : State :=
  if (s.key k).stroke.driven then s.enterReturn k else s

/-- Entry to SILENCED at a key: STRIKE, HOLD and RETURN go to REST (R96). -/
def State.silenceKey (s : State) (k : Driver) : State :=
  match (s.key k).stroke with
  | .faulted => s
  | _ => s.coilOff k .rest

/-- A strike request that is struck: the key enters STRIKE at the applied duty until its pulse end (R81). -/
def State.strikeKey (s : State) (k : Driver) (applied : Nat) : State :=
  s.setKey k
    { s.key k with stroke := .strike (after s.now (100 * (s.store.key k).tPulse)) applied, overRun := none, openRun := none }

/-- An overcurrent detection: the key enters FAULTED and every record of it is removed (R93, R73). -/
def State.faultKey (s : State) (k : Driver) : State := (s.coilOff k .faulted).dropNotes fun n => n.driver = k

/-! ### Pulse end and return end -/

/-- The key's SOUNDING record lets go at or before the pulse end (R82). -/
def State.releasedBy (s : State) (k : Driver) (pulseEnd : Time) : Bool :=
  match s.soundingNote k with
  | some n =>
    match n.releaseTime with
    | some r => reached pulseEnd r
    | none => false
  | none => false

/-- A pulse that has reached its end: the key enters HOLD, or RETURN when its note is released (R82). -/
def State.onPulseEnd (s : State) (k : Driver) : State :=
  match (s.key k).stroke with
  | .strike pulseEnd _ =>
    if reached s.now pulseEnd then
      if s.releasedBy k pulseEnd then s.enterReturn k else s.enterHold k
    else s
  | _ => s

/-- A return that has lasted T_return: the key enters REST (R85), which can end WINDDOWN (R176). -/
def State.onReturnEnd (s : State) (k : Driver) : State :=
  match (s.key k).stroke with
  | .returning start =>
    if reached s.now (after start (1000 * (s.store.key k).tReturn)) then
      (s.setKey k { s.key k with stroke := .rest }).settleMode
    else s
  | _ => s

/-- PULSE_END (R82). -/
def execPulseEnd (t : Time) (k : Driver) (s : State) : Host.Outcome State Fault Refusal :=
  .next (s.event t fun s => s.onPulseEnd k)

/-- RETURN_END (R85). -/
def execReturnEnd (t : Time) (k : Driver) (s : State) : Host.Outcome State Fault Refusal :=
  .next (s.noticedEvent t .mode fun s => s.onReturnEnd k)

end Sys2Proof.Machine
end

