-- ==== Sys2Proof/Machine/ShadeUnit.lean ====
section
/-! DEFINITION. The shade unit (chapter 2): the expression code, the generator, keep frames and the outgoing shade queues,
the received timelines and the evaluation of shade, with the command KEEP_COUNT_EXPIRY. -/

namespace Sys2Proof.Machine

/-! ### Readings of tracks (R12) -/

/-- A track reads open in OPEN and in CLOSING(n). -/
def Track.readsOpen (x : Track) : Bool :=
  match x.decode with
  | .openHole | .closing _ => true
  | .closed | .opening _ => false

/-- A function reads open when a track that carries it reads open (R25, R99). -/
def State.readsOpen (s : State) (f : TrackFunction) : Bool :=
  (List.finRange 24).any fun i => s.store.function i = f && s.tracks[i].readsOpen

/-- A generator's parameters (R25). -/
structure ShadeParams where
  target : Nat
  rate : Nat
  accent : Bool
deriving DecidableEq, Repr

/-- The parameters that a half's expression tracks read (R25). -/
def State.shadeParams (s : State) (h : Half) : ShadeParams :=
  let v := s.store.half h
  let c := 4 * (s.readsOpen (.level4 h)).toNat + 2 * (s.readsOpen (.level2 h)).toNat + (s.readsOpen (.level1 h)).toNat
  let accent := s.readsOpen (.accent h)
  if s.readsOpen (.hush h) then { target := 0, rate := v.fast, accent }
  else { target := 16 * v.targets.getD c 0, rate := if s.readsOpen (.swell h) then v.fast else v.slow, accent }

/-! ### Outgoing shade queues (R30, R32) -/

/-- The frame of a shade queue entry (R30, 11.4). -/
def ShadeFrame.payload (h : Half) : ShadeFrame → Payload
  | .segment g => .segment h g.accent (fieldOf 12 g.s0) (fieldOf 8 g.rate) (fieldOf 8 (g.target / 16)) g.start
  | .keep line => .keep h line

/-- When a half's SHADE slot is neither QUEUED nor SENDING, the oldest entry of its queue takes it (R32). -/
def State.feedShade (s : State) (h : Half) : State :=
  match (s.half h).queue with
  | [] => s
  | f :: rest =>
    if (s.slot (.shade h)).state.free then
      (s.setHalf { s.half h with queue := rest } h).placeFrame (.shade h) (some (f.payload h))
    else s

/-- Add an entry after all others; a queue of 4 first drops its oldest. The flag says that one was dropped (R30). -/
def joinQueue (f : ShadeFrame) (q : List ShadeFrame) : List ShadeFrame × Bool :=
  if q.length < Config.shadeQueue then (q ++ [f], false) else (q.tail ++ [f], true)

/-- An entry is a KEEP. -/
def ShadeFrame.isKeep : ShadeFrame → Bool
  | .keep _ => true
  | .segment _ => false

/-- An entry is a SEGMENT with a start line. -/
def ShadeFrame.startsAt (line : Line) : ShadeFrame → Bool
  | .segment g => g.start = line
  | .keep _ => false

/-- How an entry joins a queue (R30): a SEGMENT overwrites one of the same start line, or removes a KEEP and joins; a KEEP
overwrites a KEEP, or joins. -/
def enqueueShade (f : ShadeFrame) (q : List ShadeFrame) : List ShadeFrame × Bool :=
  match f with
  | .segment g =>
    if q.any (ShadeFrame.startsAt g.start) then
      (q.map fun e => if e.startsAt g.start then f else e, false)
    else joinQueue f (q.filter fun e => !e.isKeep)
  | .keep _ =>
    if q.any ShadeFrame.isKeep then (q.map fun e => if e.isKeep then f else e, false)
    else joinQueue f q

/-- Queue a frame of a half: the keep count is reloaded and a free slot is fed (R30 to R32). -/
def State.queueShade (s : State) (h : Half) (f : ShadeFrame) : State :=
  let x := enqueueShade f (s.half h).queue
  let s := s.setHalf { s.half h with queue := x.1, keepCount := 0 } h
  let s := if x.2 then s.count .shadeFramesShed else s
  s.feedShade h

/-! ### Received timelines (R33 to R36) -/

/-- The oldest needed line: the earliest onset line of the WAITING records relative to the current line, or the current
line (R36). -/
def State.oldestNeeded (s : State) : Line :=
  let waiting := (s.notes.filter fun n => n.state = .waiting).map Note.onsetLine
  match waiting with
  | [] => s.scan.line
  | l :: ls => ls.foldl (fun a b => if lineDiff b s.scan.line < lineDiff a s.scan.line then b else a) l

/-- Remove oldest segments while the second-oldest starts at or before the oldest needed line (R36). -/
def pruneTimeline (needed : Line) : List Segment → List Segment
  | a :: b :: rest => if lineDiff b.start needed ≤ 0 then pruneTimeline needed (b :: rest) else a :: b :: rest
  | ts => ts

/-- Prune the timeline of a half (R36). -/
def State.prune (s : State) (h : Half) : State :=
  s.setHalf { s.half h with timeline := pruneTimeline s.oldestNeeded (s.half h).timeline } h

/-- Where a segment goes in a timeline (R33). -/
inductive Placement where
  | only | appended | replaced | discarded
deriving DecidableEq, Repr

/-- The row of R33 that a start line takes against a timeline's last segment. -/
def placementOf (start : Line) (timeline : List Segment) : Placement :=
  match timeline.getLast? with
  | none => .only
  | some g =>
    if start = g.start then .replaced
    else if 0 < lineDiff start g.start then .appended
    else .discarded

/-- Place a segment in a half's timeline (R33), pruning after an append (R36). DESIGN CHOICE: a segment more than 32,767
lines after the last compares as earlier and is discarded and counted, an own one too (notes/assumptions/45.md). -/
def State.placeSegment (s : State) (h : Half) (g : Segment) : State :=
  let x := s.half h
  match placementOf g.start x.timeline with
  | .only => s.setHalf { x with timeline := [g] } h
  | .appended =>
    let s :=
      if x.timeline.length < Config.timelineSegments then s.setHalf { x with timeline := x.timeline ++ [g] } h
      else (s.setHalf { x with timeline := x.timeline.tail ++ [g] } h).count .shadeSegmentsEvicted
    s.prune h
  | .replaced => s.setHalf { x with timeline := x.timeline.dropLast ++ [g] } h
  | .discarded => s.count .misalignedFrames

/-- A half's confirmed-through line: the generator line for a half the station generates for (R35). -/
def State.confirmedThrough (s : State) (h : Half) : Option Line :=
  if s.generates h then some s.shade.generatorLine else (s.half h).through

/-! ### The generator (R26, R28, R29) -/

/-- The generator takes a new segment: it enters the own timeline and is queued as a SEGMENT frame. -/
def State.emitSegment (s : State) (h : Half) (g : Segment) : State :=
  let s := s.setHalf { s.half h with generator := some g } h
  (s.placeSegment h g).queueShade h (.segment g)

/-- The parameters of a generator segment. -/
def Segment.params (g : Segment) : ShadeParams := { target := g.target, rate := g.rate, accent := g.accent }

/-- The segment a generator makes at a line from a start value and parameters. -/
def segmentOf (line : Line) (s0 : Nat) (p : ShadeParams) : Segment :=
  { start := line, s0, target := p.target, rate := p.rate, accent := p.accent }

/-- The default shade value of a half (R26, R37). -/
def State.defaultShade (s : State) (h : Half) : Nat := 16 * (s.store.half h).default

/-- An edge of an expression track of a half: a new segment when the parameters have changed (R26). -/
def State.generatorEdge (s : State) (h : Half) (line : Line) : State :=
  let p := s.shadeParams h
  match (s.half h).generator with
  | some g => if g.params = p then s else s.emitSegment h (segmentOf line (g.value line) p)
  | none => s.emitSegment h (segmentOf line (s.defaultShade h) p)

/-- A re-announcement of a half: a segment starting at a line, from the generator's value at a line of the present
numbering, or from the default (R28, R29). -/
def State.reannounceHalf (s : State) (h : Half) (valueAt start : Line) : State :=
  if s.generates h then
    match (s.half h).generator with
    | some g => s.emitSegment h (segmentOf start (g.value valueAt) g.params)
    | none => s.emitSegment h (segmentOf start (s.defaultShade h) (s.shadeParams h))
  else s

/-- Both halves re-announce at entry to PLAY (R28). -/
def State.reannouncePlay (s : State) : State :=
  let line := s.shade.generatorLine
  (s.reannounceHalf .bass line line).reannounceHalf .treble line line

/-- A roll start at the shade unit: the timelines are cleared, the generators re-announce at line 0, and the generator line
becomes 0 (R29, R34). -/
def State.shadeRollStart (s : State) : State :=
  let line := s.shade.generatorLine
  let s := s.setHalf { s.half .bass with timeline := [], through := none } .bass
  let s := s.setHalf { s.half .treble with timeline := [], through := none } .treble
  let s := (s.reannounceHalf .bass line 0).reannounceHalf .treble line 0
  s.setShade { s.shade with generatorLine := 0 }

/-! ### Keep frames (R31) -/

/-- An accepted strobe raises the keep count of each generating half (R31). -/
def State.countLine (s : State) (h : Half) : State :=
  if s.generates h then s.setHalf { s.half h with keepCount := (s.half h).keepCount + 1 } h else s

/-- The keep count has reached 16: a KEEP is queued when a generator segment is present; in either case the count is
reloaded (R31). -/
def State.onKeepCount (s : State) (h : Half) : State :=
  if s.generates h && Config.keepLines ≤ (s.half h).keepCount then
    match (s.half h).generator with
    | some _ => s.queueShade h (.keep s.shade.generatorLine)
    | none => s.setHalf { s.half h with keepCount := 0 } h
  else s

/-- KEEP_COUNT_EXPIRY (R31). -/
def execKeepCountExpiry (t : Time) (h : Half) (s : State) : Host.Outcome State Fault Refusal :=
  .next (s.event t fun s => s.onKeepCount h)

/-! ### Evaluating shade (R37) -/

/-- The answer to a shade query (R37). -/
structure ShadeAnswer where
  value : Nat
  accent : Bool
  projected : Bool
deriving DecidableEq, Repr

/-- The segment used for a line: the latest that starts at or before it, or the first (R37). -/
def segmentAt (line : Line) (timeline : List Segment) : Option Segment :=
  match (timeline.filter fun g => lineDiff g.start line ≤ 0).getLast? with
  | some g => some g
  | none => timeline.head?

/-- An answer for a line of a half is projected: the confirmed-through line is none or the line is later (R37). The onset
line of an own note is a line already decoded, so a half that the station generates for is never projected, even while
the line is still being decoded (R35). -/
def State.projects (s : State) (h : Half) (line : Line) : Bool :=
  match s.confirmedThrough h with
  | none => true
  | some c => !s.generates h && 0 < lineDiff line c

/-- Evaluate the shade of a half at a line (R37). -/
def State.evaluateShade (s : State) (h : Half) (line : Line) : ShadeAnswer :=
  let projected := s.projects h line
  match segmentAt line (s.half h).timeline with
  | none => { value := s.defaultShade h, accent := false, projected }
  | some g =>
    let value := if lineDiff g.start line ≤ 0 then g.value line else g.s0
    { value, accent := g.accent, projected }

/-! ### SHADE frames (R23, R33 to R35) -/

/-- A line lies within 4096 lines of the current line (R34, R103). -/
def State.aligned (s : State) (line : Line) : Bool :=
  (lineDiff line s.scan.line).natAbs ≤ Config.alignWindow

/-- A SHADE frame of a half is taken: it comes from the half's authority and is not the station's own echo (R23). -/
def State.takesShade (s : State) (h : Half) (e : Entry) : Bool :=
  !e.own && e.sender ≠ s.number && s.store.authority h = some e.sender

/-- Raise the confirmed-through line of a half to a segment's start line when it is none or earlier (R35). -/
def State.raiseThrough (s : State) (h : Half) (line : Line) : State :=
  match (s.half h).through with
  | some c => if lineDiff c line < 0 then s.setHalf { s.half h with through := some line } h else s
  | none => s.setHalf { s.half h with through := some line } h

/-- A SEGMENT frame handled for its half (R33 to R35). -/
def State.takeSegment (s : State) (h : Half) (g : Segment) : State :=
  if s.aligned g.start then
    match placementOf g.start (s.half h).timeline with
    | .discarded => s.placeSegment h g
    | .only | .appended | .replaced => (s.placeSegment h g).raiseThrough h g.start
  else s.count .misalignedFrames

/-- A KEEP frame handled for its half (R34, R35). -/
def State.takeKeep (s : State) (h : Half) (line : Line) : State :=
  if s.aligned line then
    match (s.half h).timeline.getLast? with
    | none => s
    | some g =>
      if lineDiff line g.start < 0 then s.count .misalignedFrames
      else s.setHalf { s.half h with through := some line } h
  else s.count .misalignedFrames

/-- SHADE_SEGMENT (R33): the SEGMENT frame in handling, whose target is 16 times its level (R188). -/
def execShadeSegment (t : Time) (s : State) : Host.Outcome State Fault Refusal :=
  .next (s.event t fun s =>
    s.handle fun e =>
      match e.payload with
      | .segment h accent s0 rate level line =>
        some fun s =>
          if s.mode.active && s.takesShade h e then
            s.takeSegment h
              { start := line, s0 := s0.toNat, target := 16 * level.toNat, rate := rate.toNat, accent }
          else s
      | _ => none)

/-- SHADE_KEEP (R35): the KEEP frame in handling. -/
def execShadeKeep (t : Time) (s : State) : Host.Outcome State Fault Refusal :=
  .next (s.event t fun s =>
    s.handle fun e =>
      match e.payload with
      | .keep h line => some fun s => if s.mode.active && s.takesShade h e then s.takeKeep h line else s
      | _ => none)

end Sys2Proof.Machine
end

