-- ==== Sys2Proof/Machine/NoteList.lean ====
section
/-! DEFINITION. The note scheduler (chapter 4): onsets and closings, the arm, fire and release events with what they reach
at once, the key drive bank's answers to a strike request (R81, R86 to R91), and the commands ARM_EVENT, FIRE_EVENT and
RELEASE_EVENT. -/

namespace Sys2Proof.Machine

/-! ### The arm event (R63 to R65) -/

/-- What the arithmetic hands back at an arm event, and the answer of the shade unit that it used (R42, R43). -/
def State.armStrike (s : State) (n : Note) : Strike × Bool :=
  let h := s.store.halfOf n.driver
  let a := s.evaluateShade h n.onsetLine
  let lvl := level a.value (if a.accent then (s.store.half h).accent else 0) s.shade.trim
  computeStrike s.store (s.store.key n.driver) s.now n.onsetTime (s.capFor n.driver) lvl

/-- The arm event of a WAITING record (R63): the timeline is pruned; a key that cannot be struck drops the record (R65);
otherwise stages 1 to 8 run, the record becomes ARMED and its claim share is placed. -/
def State.armNote (s : State) (n : Note) : State :=
  let h := s.store.halfOf n.driver
  let s := s.prune h
  if (s.key n.driver).stroke = .faulted || s.isShut (clusterOf n.driver) then s.dropNote n
  else
    let a := s.evaluateShade h n.onsetLine
    let x := s.armStrike n
    let s := if a.projected then s.count .projectedShades else s
    let s := if x.2 then s.count .lateStrikes else s
    let s := s.changeNote n fun m => { m with state := .armed, strike := some x.1 }.mark s.now
    s.placeClaim n x.1

/-! ### The release event (R69) -/

/-- The release event of a SOUNDING record: a key in HOLD enters RETURN and the record leaves; a key in STRIKE goes on, and
the event is not taken again (R59, R69, R83). -/
def State.releaseNote (s : State) (n : Note) : State :=
  match (s.key n.driver).stroke with
  | .hold .. => s.enterReturn n.driver
  | _ => s.changeNote n fun m => { m with released := true, atOnce := false }

/-! ### Strike requests (R81, R86 to R91) -/

/-- The answer of the key drive bank to a strike request. -/
inductive StrikeAnswer where
  | struck
  | deferred (fire : Time)
  | dropped
deriving DecidableEq, Repr

/-- The answer to a strike request, by what protection has in force and the key's stroke state. -/
def State.strikeAnswer (s : State) (k : Driver) : StrikeAnswer :=
  let rep := 1000 * (s.store.key k).tRep
  if s.dropsStrike k then .dropped
  else
    match (s.key k).stroke with
    | .rest => .struck
    | .returning start => if reached s.now (after start rep) then .struck else .deferred (after start rep)
    | .hold .. => .deferred (after s.now rep)
    | .strike pulseEnd _ => .deferred (after pulseEnd rep)
    | .faulted => .dropped

/-- What a deferral does at the key (R86 to R88): in RETURN a repetition delay is counted; in HOLD the SOUNDING record is
force-released at once; in STRIKE it is force-released at the pulse end, unless it lets go by then. -/
def State.deferAtKey (s : State) (k : Driver) : State :=
  match (s.key k).stroke with
  | .hold .. => (s.enterReturn k).count .forcedReleases
  | .strike pulseEnd _ =>
    if s.releasedBy k pulseEnd then s.count .repetitionDelays
    else
      let s := s.placeNotes (s.notes.map fun m =>
        if m.driver = k && m.state = .sounding then { m with releaseTime := some pulseEnd }.mark s.now else m)
      s.count .forcedReleases
  | _ => s.count .repetitionDelays

/-! ### The fire event (R66 to R68) -/

/-- The duty and energy of an ARMED note under the caps in force at its fire event (R54). -/
def State.fireStrike (s : State) (n : Note) (k : Strike) : Strike :=
  let x := capAtFire (s.store.key n.driver) (s.capFor n.driver) k.energy k.duty
  { k with energy := x.1, duty := x.2 }

/-- The fire event of an ARMED record (R66): it strikes its key, is deferred to a new fire time with the duty it was armed
or fitted with (R67, R90), or is dropped (R68). -/
def State.fireNote (s : State) (n : Note) : State :=
  match n.strike with
  | none => s
  | some k =>
    match s.strikeAnswer n.driver with
    | .dropped => s.dropNote n
    | .deferred fire =>
      let s := s.deferAtKey n.driver
      let s := s.changeNote n fun m => { m with strike := some { k with fireTime := fire }, atOnce := false }
      s.compareDeferred n fire
    | .struck =>
      let x := s.fireStrike n k
      let s := s.strikeKey n.driver (s.applied x.duty)
      let s := s.changeNote n fun m => { m with state := .sounding, strike := some x }.mark s.now
      s.lateClaim n

/-! ### What is reached at once (R59) -/

/-- Take the event of a record's state. -/
def State.takeNote (s : State) (n : Note) : State :=
  match n.state with
  | .waiting => s.armNote n
  | .armed => s.fireNote n
  | .sounding => s.releaseNote n

/-- Take the events of the records whose due times were set at or before now within this event, one at a time in list
order, until none is left (R59). The fuel is never spent (see `settleFuel`); a spent one would leave no mark behind. -/
def State.settleWith : Nat → State → State
  | 0, s => s.setNotes (s.notes.map fun n => { n with atOnce := false })
  | fuel + 1, s =>
    match s.notes.find? Note.atOnce with
    | none => s
    | some n => settleWith fuel ((s.changeNote n fun m => { m with atOnce := false }).takeNote { n with atOnce := false })

/-- No record is reached more than four times in one event (its arm, its fire before and after a fit, its release). -/
abbrev settleFuel : Nat := 4 * Config.noteCapacity

/-- See `settleWith`. -/
def State.settle (s : State) : State := settleWith settleFuel s

/-- The first WAITING record in list order. -/
def State.nextWaiting (s : State) : Option Note := s.notes.find? fun n => n.state = .waiting

/-- The arm of one record at a stall, with what it reaches at once: the last one finds no WAITING record behind it, and the
timeline of its half is pruned to the current line (R71, notes/assumptions/21.md). -/
def State.armAtStall (s : State) (n : Note) : State :=
  let s := (s.armNote n).settle
  match s.nextWaiting with
  | some _ => s
  | none => s.prune (s.store.halfOf n.driver)

/-- Arm WAITING records in list order (R71). -/
def State.armAllWith : Nat → State → State
  | 0, s => s
  | fuel + 1, s =>
    match s.nextWaiting with
    | none => s
    | some n => armAllWith fuel (s.armAtStall n)

/-- The stall at the note scheduler: every WAITING record is armed at once (R71). -/
def State.armAll (s : State) : State := armAllWith s.notes.length s

/-! ### Events that come due (R59) -/

/-- The record whose event is next to be taken: the first in list order whose due time the timebase has reached and whose
release event has not been taken. -/
def State.nextDue (s : State) : Option Note :=
  s.notes.find? fun n =>
    match n.due with
    | some d => reached s.now d && !(n.state = .sounding && n.released)
    | none => false

/-- Take the next due event when it is of the state given. -/
def State.onDue (s : State) (x : NoteState) : State :=
  match s.nextDue with
  | some n => if n.state = x then (s.takeNote n).settle else s
  | none => s

/-- ARM_EVENT (R63). -/
def execArmEvent (t : Time) (s : State) : Host.Outcome State Fault Refusal :=
  .next (s.noticedEvent t .drop fun s => s.onDue .waiting)

/-- FIRE_EVENT (R66). -/
def execFireEvent (t : Time) (s : State) : Host.Outcome State Fault Refusal :=
  .next (s.noticedEvent t .drop fun s => s.onDue .armed)

/-- RELEASE_EVENT (R69). -/
def execReleaseEvent (t : Time) (s : State) : Host.Outcome State Fault Refusal :=
  .next (s.noticedEvent t .drop fun s => s.onDue .sounding)

/-! ### Onsets and closings (R60 to R62) -/

/-- The scheduler's answer to an onset (R19). -/
inductive OnsetAnswer where
  | taken | refused | notTaken
deriving DecidableEq, Repr

/-- Give a record without a release time one; a SOUNDING record takes its place by it and, when it is past, is released at
once (R62, R72). -/
def Note.giveRelease (now : Time) (release : Time) (n : Note) : Note :=
  if n.releaseTime.isNone then
    let n := { n with releaseTime := some release }
    if n.state = .sounding then n.mark now else n
  else n

/-- Give the unreleased record of a key a release time from a close time (R62). -/
def State.closeNote (s : State) (k : Driver) (closeTime : Time) : State :=
  let release := shifted closeTime ((s.store.delay : Int) - 1000 * (s.store.key k).relLead)
  (s.placeNotes (s.notes.map fun n => if n.driver = k then n.giveRelease s.now release else n)).settle

/-- A new record (R57, R60). -/
def State.newNote (s : State) (k : Driver) (line : Line) (time : Time) : Note :=
  { driver := k, onsetLine := line, onsetTime := time, state := .waiting,
    armTime := armTimeOf s.store (s.store.key k) time, strike := none, claimTag := none, windowEnd := none,
    releaseTime := none, unannounced := false, released := false, atOnce := false }

/-- What the scheduler answers to an onset (R60). -/
def State.onsetAnswer (s : State) : OnsetAnswer :=
  if s.mode = .play && s.scan.roll = .moving then
    if s.notes.length < Config.noteCapacity then .taken else .refused
  else .notTaken

/-- An onset at the scheduler (R60). -/
def State.onset (s : State) (k : Driver) (line : Line) (time : Time) : State :=
  match s.onsetAnswer with
  | .notTaken => s
  | .refused => s.countDrop .notesDroppedListFull
  | .taken =>
    let s := s.closeNote k time
    (s.placeNotes (s.notes ++ [(s.newNote k line time).mark s.now])).settle

/-! ### Hold-over, STOP and hold-off at the list (R72, R75, R76) -/

/-- Every record without a release time is given release time now (R72). -/
def State.releaseAll (s : State) : State :=
  (s.placeNotes (s.notes.map (Note.giveRelease s.now s.now))).settle

/-- The STOP at the list: WAITING and ARMED records leave uncounted with their claims, and SOUNDING records whose release
time is absent or later than now are given release time now (R76). -/
def State.stopNotes (s : State) : State :=
  let gone := s.notes.filter fun n => n.state ≠ .sounding
  let s := s.setNotes (s.notes.filter fun n => n.state = .sounding)
  let s := gone.foldl State.leaveClaim s
  let s := s.placeNotes (s.notes.map fun n =>
    match n.releaseTime with
    | some r => if earlier s.now r then { n with releaseTime := some s.now }.mark s.now else n
    | none => { n with releaseTime := some s.now }.mark s.now)
  s.settle

/-- Every record leaves uncounted, ARMED ones with their claims (R77). -/
def State.emptyNotes (s : State) : State :=
  let gone := s.notes
  gone.foldl State.leaveClaim (s.setNotes [])

end Sys2Proof.Machine
end

