-- ==== Sys2Proof/Machine/Claims.lean ====
section
/-! DEFINITION. Rechecks and cancellations of claims (R130, R131, R138), the handling of LOAD and CLAIM frames (R119 to
R121), and the commands LOAD_REFRESH, PEER_ABSENT, CLAIM_FRAME and LOAD_FRAME. -/

namespace Sys2Proof.Machine

/-- A cancelled claim slot is fitted and QUEUED again with the same tag and members; a member that the fit sends to fire at
once fires then (R131, R129). DESIGN CHOICE: it fires before a recheck goes on to the other slot
(notes/assumptions/51.md). -/
def State.refitAndQueue (s : State) (c : ClaimId) : State := ((s.fit c).placeFrame (.claim c) none).settle

/-- The claim of a slot no longer fits the headroom over its window (R130). -/
def State.misfits (s : State) (c : ClaimId) : Bool :=
  match (s.claimSlot c).claim with
  | some x => s.headroom x.windowStart x.windowEnd (some c) < x.amount
  | none => false

/-- Recheck one claim slot (R130, R131): a misfit on a QUEUED slot is cancelled, fitted and queued again; on a SENDING slot
the cancellation is kept pending. -/
def State.recheckSlot (s : State) (c : ClaimId) : State :=
  let s := s.purge
  match (s.slot (.claim c)).state with
  | .queued => if s.misfits c then (s.moveSlot (.claim c) .cancelled).refitAndQueue c else s
  | .sending => if s.misfits c then s.requestCancel (.claim c) .refit else s
  | .empty | .sent | .failed | .cancelled => s

/-- A recheck reaches both claim slots, the one queued first first (R130). -/
def State.recheck (s : State) : State :=
  let first := if s.claimAFirst then .a else .b
  (s.recheckSlot first).recheckSlot first.other

/-- Both claim slots are asked to cancel at a change of mode; no fit follows (R138). -/
def State.cancelClaims (s : State) : State :=
  (s.requestCancel (.claim .a) .final).requestCancel (.claim .b) .final

/-- A peer is heard (R118). -/
def State.hearPeer (s : State) (n : StationNo) : State :=
  s.setPeer n { s.peer n with present := true, lastHeard := s.now }

/-- A LOAD frame handled (R119); the station's own echo changes nothing, and an entry of the own number that is no echo is
discarded (R169). -/
def State.takeLoad (s : State) (e : Entry) (value : Nat) : State :=
  if e.own || e.sender = s.number then s
  else
    let s := s.setPeer e.sender { s.peer e.sender with load := value }
    (s.hearPeer e.sender).recheck

/-- The claim record of a frame, from its arrival (R120). -/
def recordOf (arrival : Time) (tag : BitVec 4) (amount offset duration : Nat) : ClaimRecord :=
  let start := after arrival (1000 * offset)
  { tag, amount, start, stop := after start (1000 * duration) }

/-- The own echo of a CLAIM frame: it is recorded under the own number, and a departed claim of its tag is no longer counted
apart (R121). -/
def State.takeOwnClaim (s : State) (r : ClaimRecord) : State :=
  let departed := s.share.departed.filter fun d => d.tag ≠ r.tag
  s.setShare { s.share with ownClaims := recordClaim s.now r s.share.ownClaims, departed }

/-- A CLAIM frame handled (R120, R121); an entry of the own number that is no echo is discarded (R169). -/
def State.takeClaim (s : State) (e : Entry) (r : ClaimRecord) : State :=
  if e.own then s.takeOwnClaim r
  else if e.sender = s.number then s
  else
    let p := s.peer e.sender
    let s := s.setPeer e.sender { p with claims := recordClaim s.now r p.claims }
    (s.hearPeer e.sender).recheck

/-- 500 ms have passed since the last LOAD was queued (R116). -/
def State.onLoadRefresh (s : State) : State :=
  match s.share.lastLoad with
  | some m => if s.mode.active && Config.loadRefresh ≤ timeDiff s.now m.time then s.queueLoad else s
  | none => s

/-- 1500 ms have passed since a present peer was last heard: its entry becomes absent (R118). -/
def State.onPeerAbsent (s : State) (n : StationNo) : State :=
  let p := s.peer n
  if p.present && Config.peerSilence ≤ timeDiff s.now p.lastHeard then
    s.setPeer n { p with present := false, load := 0, claims := [] }
  else s

/-- LOAD_REFRESH (R116). -/
def execLoadRefresh (t : Time) (s : State) : Host.Outcome State Fault Refusal :=
  .next (s.event t State.onLoadRefresh)

/-- PEER_ABSENT (R118). -/
def execPeerAbsent (t : Time) (peer : StationNo) (s : State) : Host.Outcome State Fault Refusal :=
  .next (s.event t fun s => s.onPeerAbsent peer)

/-- LOAD_FRAME (R119). -/
def execLoadFrame (t : Time) (s : State) : Host.Outcome State Fault Refusal :=
  .next (s.noticedEvent t .drop fun s =>
    s.handle fun e =>
      match e.payload with
      | .load value => some fun s => s.takeLoad e value.toNat
      | _ => none)

/-- CLAIM_FRAME (R120). -/
def execClaimFrame (t : Time) (s : State) : Host.Outcome State Fault Refusal :=
  .next (s.noticedEvent t .drop fun s =>
    s.handle fun e =>
      match e.payload with
      | .claim tag _ _ amount offset duration =>
        some fun s => s.takeClaim e (recordOf e.arrival tag amount.toNat offset.toNat duration.toNat)
      | _ => none)

end Sys2Proof.Machine
end

