-- ==== Sys2Proof/Machine/MeasurementConverter.lean ====
section
/-! DEFINITION. The measurement converter (8.1): its schedule, its one conversion in flight, what waits, and the command
SAMPLE_DUE. -/

namespace Sys2Proof.Machine

/-- Begin a conversion: 60 µs after a change of source, 10 µs on the same source (R142). -/
def State.beginConversion (s : State) (source : Source) (probe : Option ProbeId) : State :=
  let time :=
    if s.conv.lastSource = some source then Config.conversionTime else Config.settleTime + Config.conversionTime
  s.setConv { s.conv with inFlight := some { source, probe, ends := after s.now time }, lastSource := some source }

/-- The cluster sampled in a frame of the rotation: A, B, C, P (R141). -/
def clusterOfFrame : Nat → Cluster
  | 0 => .a
  | 1 => .b
  | 2 => .c
  | _ => .p

/-- The source due at a half-frame: the supply at a frame's start, a cluster 500 µs into it (R141). -/
def sourceOfPhase (phase : Fin 8) : Source :=
  if phase.val % 2 = 0 then .supply else .cluster (clusterOfFrame (phase.val / 2))

/-- A due sample waits: it takes the place of a waiting one of the same source, so that one conversion serves both, and
otherwise stands last (R142). -/
def waitSample (x : DueSample) (xs : List DueSample) : List DueSample :=
  (xs.filter fun y => y.source ≠ x.source) ++ [x]

/-- A scheduled sample falls due: it begins, or waits for the converter, and the schedule goes on (R141, R142). -/
def State.onSampleDue (s : State) : State :=
  match s.conv.schedule with
  | some x =>
    if s.mode.active && reached s.now x.due then
      let source := sourceOfPhase x.phase
      let s := s.setConv { s.conv with schedule := some { due := after x.due Config.halfFrame, phase := x.phase + 1 } }
      if s.conv.inFlight.isNone then s.beginConversion source none
      else s.setConv { s.conv with waiting := waitSample { source, due := x.due } s.conv.waiting }
    else s
  | none => s

/-- Begin the waiting sample that fell due first, if any. -/
def State.beginSample (s : State) : Option State :=
  match s.conv.waiting with
  | x :: rest => some ((s.setConv { s.conv with waiting := rest }).beginConversion x.source none)
  | [] => none

/-- Begin the waiting probe conversion, if any. -/
def State.beginProbe (s : State) : Option State :=
  match s.conv.waitingProbe with
  | some j => some ((s.setConv { s.conv with waitingProbe := none }).beginConversion j.source (some j.probe))
  | none => none

/-- A conversion ends and the converter chooses the next: after a sample the waiting probe goes first, after a probe the
waiting samples do (R142). -/
def State.endConversion (s : State) (x : Conversion) : State :=
  let s := s.setConv { s.conv with inFlight := none }
  if x.probe.isNone then (s.beginProbe.orElse fun _ => s.beginSample).getD s
  else (s.beginSample.orElse fun _ => s.beginProbe).getD s

/-- A probe sense request: it begins at once at an idle converter, and otherwise becomes the waiting probe conversion in
place of any that waits (R144). -/
def State.requestProbe (s : State) (source : Source) (probe : ProbeId) : State :=
  if s.conv.inFlight.isNone then s.beginConversion source (some probe)
  else s.setConv { s.conv with waitingProbe := some { source, probe } }

/-- The conversion in flight has come to its end. -/
def State.conversionDone (s : State) : Option Conversion := s.conv.inFlight.filter fun x => reached s.now x.ends

/-- SAMPLE_DUE (R141). -/
def execSampleDue (t : Time) (s : State) : Host.Outcome State Fault Refusal :=
  .next (s.event t State.onSampleDue)

end Sys2Proof.Machine
end

