-- ==== Sys2Proof/Machine/PedalUnit.lean ====
section
/-! DEFINITION. The pedal unit (chapter 6): the pedal source, the pedal event queues, the pedal machines, and the commands
PEDAL_ACTION_EVENT and RAMP_STEP. -/

namespace Sys2Proof.Machine

/-! ### The pedal machine (R107 to R110) -/

/-- The target duty of a position (R107); the shift takes HALF as DOWN. -/
def Voicing.pedalTarget (v : Voicing) : Pedal → Position → Nat
  | _, .up => 0
  | .damper, .half => v.pHalf
  | .damper, .down => v.pDown
  | .shift, .half | .shift, .down => v.pShift

/-- The standing load of a pedal machine (R110). -/
def pedalLoad (iFull : Nat) (state : PedalState) (base : Nat) : Nat :=
  match state with
  | .moving r => currentAt iFull (max r.d0 r.target)
  | .holding => currentAt iFull base
  | .resting | .faulted => 0

/-- Put a pedal machine in a state at a base duty: its applied duty and standing load follow, and a base duty of 0 ends an
overcurrent run (R109 to R111). -/
def State.drivePedal (s : State) (p : Pedal) (state : PedalState) (base : Nat) : State :=
  let x := s.pedal p
  let load := pedalLoad s.store.iFullPedal state base
  let s' := s.setPedal
    { x with state, base, applied := s.applied base, load, overRun := if base = 0 then none else x.overRun } p
  s'.changeLoad x.load load

/-- The state of a pedal that stands at a target duty (R107). -/
def settledAt (target : Nat) : PedalState := if target = 0 then .resting else .holding

/-- A pedal already stands at, or moves to, a target duty, so an action toward it starts no ramp (R107). -/
def PedalDrive.isAt (x : PedalDrive) (target : Nat) : Bool :=
  match x.state with
  | .moving r => r.target = target
  | .holding | .resting => x.base = target
  | .faulted => true

/-- An action at the machine toward a position (R107, R108); a FAULTED pedal does not carry it out. -/
def State.rampPedal (s : State) (p : Pedal) (position : Position) : State :=
  let x := s.pedal p
  let target := s.store.pedalTarget p position
  if x.isAt target then s
  else if s.store.tRamp = 0 then s.drivePedal p (settledAt target) target
  else
    s.drivePedal p (.moving { d0 := x.base, target, start := s.now, steps := s.store.tRamp, taken := 0 }) x.base

/-- Set the commanded position of a pedal (R106). -/
def State.commandPedal (s : State) (p : Pedal) (position : Position) : State :=
  s.setPedal { s.pedal p with commanded := position } p

/-- An action toward a position in modes that carry it out: the commanded position is set, and the machine acts when the
pedal may be energized (R106, R112, R113). -/
def State.actPedal (s : State) (p : Pedal) (position : Position) (modeAllows : Bool) : State :=
  let s := s.commandPedal p position
  if modeAllows && s.pedalAllowed p then s.rampPedal p position else s

/-- The coil goes off at once with no ramp: RESTING at duty 0, unless FAULTED (R112, R114). -/
def State.restPedal (s : State) (p : Pedal) : State :=
  match (s.pedal p).state with
  | .faulted => s
  | _ => s.drivePedal p .resting 0

/-- The restoring action at the end of hold-off or of a cluster P shutdown, in PLAY, when the commanded position is not UP
(R112). -/
def State.restorePedal (s : State) (p : Pedal) : State :=
  let x := s.pedal p
  if s.mode = .play && s.pedalAllowed p && x.commanded ≠ .up then s.rampPedal p x.commanded else s

/-- An overcurrent detection at a pedal: FAULTED at duty 0, its load leaves the standing load (R111). -/
def State.faultPedal (s : State) (p : Pedal) : State := s.drivePedal p .faulted 0

/-- A completed supply sample reaches a pedal: the applied duty of one MOVING or HOLDING is recomputed (R109). -/
def State.recompensatePedal (s : State) (p : Pedal) : State :=
  let x := s.pedal p
  match x.state with
  | .moving _ | .holding => s.setPedal { x with applied := s.applied x.base } p
  | .resting | .faulted => s

/-- A ramp step that is due sets the base duty; the last one ends the ramp (R107). -/
def State.onRampStep (s : State) (p : Pedal) : State :=
  match (s.pedal p).state with
  | .moving r =>
    let n := r.taken + 1
    if reached s.now (after r.start (1000 * n)) then
      if r.steps ≤ n then (s.drivePedal p (settledAt r.target) r.target).settleMode
      else s.drivePedal p (.moving { r with taken := n }) (r.duty n)
    else s
  | _ => s

/-! ### Pedal events (R104 to R106) -/

/-- The ring's answer about a line (R8). -/
inductive RingAnswer where
  | at (time : Time)
  | tooOld
  | notYet
deriving DecidableEq, Repr

/-- The time of a line by the line time ring (R8). -/
def Scan.ringTime (x : Scan) (line : Line) : RingAnswer :=
  match x.ring.find? fun e => e.line = line with
  | some e => .at e.time
  | none =>
    match x.ring.head? with
    | none => .notYet
    | some oldest =>
      if 0 < lineDiff line x.line then .notYet
      else if lineDiff line oldest.line < 0 then .tooOld
      else .notYet

/-- The action time from a line's time (R105). -/
def State.actionTime (s : State) (lineTime : Time) : Time :=
  shifted lineTime ((s.store.delay : Int) - 1000 * s.store.pedalLead)

/-- The action event of a pedal's earliest event: it leaves the queue, sets the commanded position and, in PLAY, gives the
machine an action (R106). -/
def State.takePedalEvent (s : State) (p : Pedal) : State :=
  match (s.pedal p).events with
  | [] => s
  | e :: rest =>
    (s.setPedal { s.pedal p with events := rest } p).actPedal p e.position (s.mode = .play)

/-- The pedal's earliest event has reached its action time. -/
def State.pedalDue (s : State) (p : Pedal) : Bool :=
  match (s.pedal p).events with
  | [] => false
  | e :: _ => match e.action with | some a => reached s.now a | none => false

/-- Place an event by its line, relative to the current line; one for a line already held replaces it (R104). -/
def insertEvent (current : Line) (e : PedalEvent) : List PedalEvent → List PedalEvent
  | [] => [e]
  | x :: xs =>
    if x.line = e.line then e :: xs
    else if lineDiff e.line current < lineDiff x.line current then e :: x :: xs
    else x :: insertEvent current e xs

/-- An event just timed stands first with its action time at or before now, so its action event follows at once (R105). -/
def State.actIfFirst (s : State) (p : Pedal) (line : Line) : State :=
  match (s.pedal p).events with
  | [] => s
  | e :: _ => if e.line = line && s.pedalDue p then s.takePedalEvent p else s

/-- Enter an event in a pedal's queue with its action time; a fifth event drops the earliest (R104, R105). DESIGN CHOICE: a
fifth event that stands earliest with its action time at or before now is dropped and counted, and does not act
(notes/assumptions/50.md). -/
def State.enterPedalEvent (s : State) (m : PedalMove) : State :=
  let action :=
    match s.scan.ringTime m.line with
    | .at t => some (s.actionTime t)
    | .tooOld => some s.now
    | .notYet => none
  let x := s.pedal m.pedal
  let events := insertEvent s.scan.line { position := m.position, line := m.line, action } x.events
  let s :=
    if Config.pedalEvents < events.length then
      (s.setPedal { x with events := events.tail } m.pedal).count .pedalEventsShed
    else s.setPedal { x with events } m.pedal
  s.actIfFirst m.pedal m.line

/-- A line is accepted: the events of a pedal that wait for it get their action times (R105). -/
def State.timePedalEvents (s : State) (line : Line) (p : Pedal) : State :=
  let x := s.pedal p
  if x.events.any fun e => e.line = line && e.action.isNone then
    let events := x.events.map fun e =>
      if e.line = line && e.action.isNone then { e with action := some (s.actionTime s.now) } else e
    (s.setPedal { x with events } p).actIfFirst p line
  else s

/-- Empty both event queues (R104). -/
def State.emptyPedalEvents (s : State) : State :=
  let s := s.setPedal { s.pedal .damper with events := [] } .damper
  s.setPedal { s.pedal .shift with events := [] } .shift

/-! ### The pedal source (R99 to R102) -/

/-- The damper's position from the present readings (R99). -/
def State.damperReading (s : State) : Position :=
  if s.readsOpen .sustain then .down else if s.readsOpen .halfdamp then .half else .up

/-- The shift's position from the present readings (R99). -/
def State.shiftReading (s : State) : Position := if s.readsOpen .soft then .down else .up

/-- The code of a position (11.4). -/
def Position.code : Position → BitVec 2
  | .up => 0
  | .half => 1
  | .down => 2

/-- When the PEDAL slot is neither QUEUED nor SENDING, the oldest frame of the queue takes it (R101). -/
def State.feedPedal (s : State) : State :=
  match s.pedals.queue with
  | [] => s
  | m :: rest =>
    if (s.slot .pedal).state.free then
      (s.setPedals { s.pedals with queue := rest }).placeFrame .pedal
        (some (.pedal m.pedal m.position.code m.line))
    else s

/-- A frame of the same pedal and line. -/
def PedalMove.sameEvent (m n : PedalMove) : Bool := m.pedal = n.pedal && m.line = n.line

/-- Queue a PEDAL frame: it overwrites one of the same pedal and line, or joins, a queue of 4 first dropping its oldest
(R101). -/
def State.queuePedal (s : State) (m : PedalMove) : State :=
  let q := s.pedals.queue
  let s :=
    if q.any m.sameEvent then s.setPedals { s.pedals with queue := q.map fun n => if m.sameEvent n then m else n }
    else if q.length < Config.pedalQueue then s.setPedals { s.pedals with queue := q ++ [m] }
    else (s.setPedals { s.pedals with queue := q.tail ++ [m] }).count .pedalEventsShed
  s.feedPedal

/-- Make a PEDAL frame: it is queued and, at a station that is also the pedal drive, entered in its own event queue
(R100, R102). -/
def State.emitPedal (s : State) (m : PedalMove) : State :=
  let s := s.queuePedal m
  if s.isPedalDrive then s.enterPedalEvent m else s

/-- An edge of a pedal track: a frame for each pedal whose position has changed, the damper's first (R100). -/
def State.pedalEdge (s : State) (line : Line) : State :=
  let damper := s.damperReading
  let shift := s.shiftReading
  let movedDamper := damper ≠ s.pedals.lastDamper
  let movedShift := shift ≠ s.pedals.lastShift
  let s := s.setPedals { s.pedals with lastDamper := damper, lastShift := shift }
  let s := if movedDamper then s.emitPedal { pedal := .damper, position := damper, line } else s
  if movedShift then s.emitPedal { pedal := .shift, position := shift, line } else s

/-- The pedal source re-announces both positions at a line (R102). -/
def State.reannouncePedals (s : State) (line : Line) : State :=
  if s.isPedalSource then
    let damper := s.damperReading
    let shift := s.shiftReading
    let s := s.setPedals { s.pedals with lastDamper := damper, lastShift := shift }
    (s.emitPedal { pedal := .damper, position := damper, line }).emitPedal { pedal := .shift, position := shift, line }
  else s

/-! ### PEDAL frames at the drive (R103) -/

/-- The position a PEDAL frame names; the shift takes HALF as DOWN, and code 3 names none (R103, R188). -/
def positionOf (p : Pedal) (code : BitVec 2) : Option Position :=
  match code.toNat, p with
  | 0, _ => some .up
  | 1, .damper => some .half
  | 1, .shift => some .down
  | 2, _ => some .down
  | _, _ => none

/-- A PEDAL frame of the intake, at the pedal drive and from the pedal source (R103). -/
def State.takePedalFrame (s : State) (e : Entry) (p : Pedal) (code : BitVec 2) (line : Line) : State :=
  if s.isPedalDrive && !e.own && e.sender ≠ s.number && s.store.pedalSource = some e.sender then
    match positionOf p code with
    | none => s
    | some position =>
      if s.aligned line then s.enterPedalEvent { pedal := p, position, line } else s.count .misalignedFrames
  else s

/-! ### Commands -/

/-- PEDAL_ACTION_EVENT (R106). -/
def execPedalActionEvent (t : Time) (p : Pedal) (s : State) : Host.Outcome State Fault Refusal :=
  .next (s.event t fun s => if s.pedalDue p then s.takePedalEvent p else s)

/-- PEDAL_FRAME (R103): the PEDAL frame in handling. -/
def execPedalFrame (t : Time) (s : State) : Host.Outcome State Fault Refusal :=
  .next (s.event t fun s =>
    s.handle fun e =>
      match e.payload with
      | .pedal p code line => some fun s => if s.mode.active then s.takePedalFrame e p code line else s
      | _ => none)

/-- RAMP_STEP (R107). -/
def execRampStep (t : Time) (p : Pedal) (s : State) : Host.Outcome State Fault Refusal :=
  .next (s.noticedEvent t .mode fun s => s.onRampStep p)

end Sys2Proof.Machine
end

