-- ==== Sys2Proof/Machine/Monitors.lean ====
section
/-! DEFINITION. The current monitors of the drive stages (5.5, 5.6, R111): the crossings of I_trip and I_open, and the
detections that follow them. -/

namespace Sys2Proof.Machine

/-- A stage's overcurrent monitor runs: a key in STRIKE or HOLD (R92), a pedal MOVING or HOLDING above base duty 0 (R111). -/
def State.tripWatched (s : State) : Stage → Bool
  | .key k => (s.key k).stroke.driven
  | .pedal p =>
    match (s.pedal p).state with
    | .moving _ | .holding => (s.pedal p).base ≠ 0
    | .resting | .faulted => false

/-- The overcurrent run of a stage. -/
def State.overRun (s : State) : Stage → Option Time
  | .key k => (s.key k).overRun
  | .pedal p => (s.pedal p).overRun

/-- Replace the overcurrent run of a stage. -/
def State.setOverRun (s : State) (x : Option Time) : Stage → State
  | .key k => s.setKey k { s.key k with overRun := x }
  | .pedal p => s.setPedal { s.pedal p with overRun := x } p

/-- A run has lasted an interval. -/
def lasted (now : Time) (run : Option Time) (interval : Int) : Bool :=
  match run with
  | some since => interval ≤ timeDiff now since
  | none => false

/-- An overcurrent run has lasted the deglitch time (R93, R111). -/
def State.overDue (s : State) (stage : Stage) : Bool := lasted s.now (s.overRun stage) s.store.deglitch

/-- A crossing of I_trip: a rise begins a run; a fall before the deglitch time has passed abandons it (R92, R111). -/
def State.onTripCrossing (s : State) (stage : Stage) (above : Bool) : State :=
  if s.tripWatched stage then
    if above then
      if (s.overRun stage).isNone then s.setOverRun (some s.now) stage else s
    else if s.overDue stage then s
    else s.setOverRun none stage
  else s

/-- The open-load monitor of a key runs: in HOLD at an applied duty above 0 (R94). -/
def State.openWatched (s : State) (k : Driver) : Bool :=
  match (s.key k).stroke with
  | .hold _ applied => applied ≠ 0
  | _ => false

/-- An open-load run has lasted 2 ms (R94). -/
def State.openDue (s : State) (k : Driver) : Bool := lasted s.now (s.key k).openRun Config.openLoadTime

/-- The open-load run of a key after a crossing of I_open: where the monitor runs, a fall begins a run, and a rise before
2 ms have passed abandons it (R94). -/
def State.crossedRun (s : State) (k : Driver) (below : Bool) : Option Time :=
  let run := (s.key k).openRun
  if s.openWatched k then
    if below then some (run.getD s.now) else if s.openDue k then run else none
  else run

/-- A crossing of I_open by the current of a driven coil: the level is kept for the next entry to HOLD, and the run follows
(R94). -/
def State.onOpenCrossing (s : State) (k : Driver) (below : Bool) : State :=
  if (s.key k).stroke.driven then
    s.setKey k { s.key k with lowCurrent := below, openRun := s.crossedRun k below }
  else s

/-- The current has stayed below I_open for 2 ms: the key's open-load warning is set; the run has done its work and a new
one begins at the next fall (R94). -/
def State.onOpenLoad (s : State) (k : Driver) : State :=
  if s.openWatched k && s.openDue k then s.setKey k { s.key k with openRun := none, openWarning := true } else s

/-- An overcurrent of a key has lasted the deglitch time (R93); the station may then be quiescent (R176). -/
def State.onOvercurrent (s : State) (k : Driver) : State :=
  if s.tripWatched (.key k) && s.overDue (.key k) then (s.faultKey k).settleMode else s

/-- An overcurrent of a pedal has lasted the deglitch time (R111); the station may then be quiescent (R176). -/
def State.onPedalOvercurrent (s : State) (p : Pedal) : State :=
  if s.tripWatched (.pedal p) && s.overDue (.pedal p) then (s.faultPedal p).settleMode else s

/-- TRIP_CURRENT_CROSSING (R92, R111). -/
def execTripCurrentCrossing (t : Time) (stage : Stage) (above : Bool) (s : State) :
    Host.Outcome State Fault Refusal :=
  .next (s.event t fun s => s.onTripCrossing stage above)

/-- OVERCURRENT_DETECTION (R93). -/
def execOvercurrentDetection (t : Time) (k : Driver) (s : State) : Host.Outcome State Fault Refusal :=
  .next (s.noticedEvent t .fault fun s => s.onOvercurrent k)

/-- PEDAL_OVERCURRENT (R111). -/
def execPedalOvercurrent (t : Time) (p : Pedal) (s : State) : Host.Outcome State Fault Refusal :=
  .next (s.noticedEvent t .fault fun s => s.onPedalOvercurrent p)

/-- OPEN_CURRENT_CROSSING (R94). -/
def execOpenCurrentCrossing (t : Time) (k : Driver) (below : Bool) (s : State) :
    Host.Outcome State Fault Refusal :=
  .next (s.event t fun s => s.onOpenCrossing k below)

/-- OPEN_LOAD_WARNING (R94). -/
def execOpenLoadWarning (t : Time) (k : Driver) (s : State) : Host.Outcome State Fault Refusal :=
  .next (s.noticedEvent t .openLoad fun s => s.onOpenLoad k)

end Sys2Proof.Machine
end

