-- ==== Sys2Proof/Machine/ProtectionMonitor.lean ====
section
/-! DEFINITION. The protection monitor (8.2 to 8.5): supply conditions and hold-off, thermal levels and shutdowns, the entry
to SILENCED that its faults force (R77, R96, R114, R138), and the commands SUPPLY_SAMPLE and TEMPERATURE_SAMPLE. -/

namespace Sys2Proof.Machine

/-! ### Entry to SILENCED (R177) -/

/-- Act on every key driver, in driver order. -/
def State.forKeys (s : State) (ks : List Driver) (f : State → Driver → State) : State := ks.foldl f s

/-- The station becomes SILENCED: the list is emptied, every coil goes off, the pedals rest and both claim slots are asked
to cancel; a station already SILENCED stays so (R77, R96, R114, R138, R177). -/
def State.silence (s : State) : State :=
  if s.mode = .silenced then s
  else
    let s := (s.setMode .silenced).emptyNotes
    let s := s.forKeys (List.finRange 12) State.silenceKey
    let s := (s.restPedal .damper).restPedal .shift
    s.cancelClaims

/-! ### Supply conditions (R145) -/

/-- One sample assessed against a condition's bad and good sides (R145). -/
def Condition.assess (x : Condition) (bad good : Bool) : Condition :=
  let against := if x.present then good else bad
  if against then
    if x.run then { present := !x.present, run := false } else { x with run := true }
  else { x with run := false }

/-- The three conditions assessed on the held supply value (R145). -/
def State.assessSupply (s : State) : State :=
  let v := s.store
  let m := s.conv.vMeas
  let margin := Config.supplyMargin
  s.setProt
    { s.prot with
      uv := s.prot.uv.assess (m < v.vUv) (v.vUv + margin ≤ m)
      ovw := s.prot.ovw.assess (v.vOvw < m) (m + margin ≤ v.vOvw)
      ovs := s.prot.ovs.assess (v.vOvs < m) (m + margin ≤ v.vOvs) }

/-- What the conditions that have become PRESENT record: a supply warning in automatic mode, a supply fault in latched mode
(R146, R147). -/
def State.recordSupply (s before : State) : State :=
  let v := s.store
  let uv := s.prot.uv.present && !before.prot.uv.present
  let ovs := s.prot.ovs.present && !before.prot.ovs.present
  s.setProt
    { s.prot with
      uvWarning := s.prot.uvWarning || (uv && !v.uvLatched)
      ovsWarning := s.prot.ovsWarning || (ovs && !v.ovsLatched)
      uvFault := s.prot.uvFault || (uv && v.uvLatched)
      ovsFault := s.prot.ovsFault || (ovs && v.ovsLatched) }

/-- A supply fault has been recorded that was not before. -/
def State.newSupplyFault (s before : State) : Bool :=
  let v := s.store
  (s.prot.uv.present && !before.prot.uv.present && v.uvLatched) ||
    (s.prot.ovs.present && !before.prot.ovs.present && v.ovsLatched)

/-- Hold-off begins: every key in STRIKE or HOLD and both pedals go off, and the SOUNDING records leave uncounted (R75, R95,
R112, R149). -/
def State.beginHoldOff (s : State) : State :=
  let s := s.forKeys (List.finRange 12) State.cutKey
  (s.restPedal .damper).restPedal .shift

/-- Both pedals are given their restoring actions (R112). -/
def State.restorePedals (s : State) : State := (s.restorePedal .damper).restorePedal .shift

/-- Hold-off begins, ends, or stays as it was at this sample (R149). -/
def State.moveHoldOff (s before : State) : State :=
  if s.holdOff && !before.holdOff then s.beginHoldOff
  else if before.holdOff && !s.holdOff then s.restorePedals
  else s

/-- A completed supply sample is handed to the keys and pedals, which recompute their applied hold duties (R143). -/
def State.recompensate (s : State) : State :=
  let s := s.forKeys (List.finRange 12) State.recompensateKey
  (s.recompensatePedal .damper).recompensatePedal .shift

/-- A supply sample completes (R143, R145 to R149). A fault silences the station before hold-off's end could restore a pedal
(notes/assumptions/16.md). -/
def State.onSupplySample (s : State) (value : Nat) : State :=
  match s.conversionDone with
  | some x =>
    if x.source = .supply && x.probe.isNone then
      let before := s
      let s := (s.setConv { s.conv with vMeas := value }).assessSupply
      let s := s.recordSupply before
      let s := if s.newSupplyFault before then s.silence else s
      ((s.moveHoldOff before).recompensate.settleMode).endConversion x
    else s
  | none => s

/-! ### Thermal levels (R150 to R152) -/

/-- The highest level whose entry temperature a temperature reaches; NORMAL when it reaches none (R150). -/
def levelEntered (temp : Int) : Level :=
  if 160 ≤ temp then .shutdown else if 135 ≤ temp then .hot else if 115 ≤ temp then .warm else .normal

/-- The highest level below a present one whose own downward threshold the temperature does not fall below (R150). -/
def levelLeft (present : Level) (temp : Int) : Level :=
  match present with
  | .hot => if 105 ≤ temp then .warm else .normal
  | .warm | .normal | .shutdown => .normal

/-- A temperature is below the downward threshold of a WARM or HOT level (R150). -/
def fallsBelow (present : Level) (temp : Int) : Bool :=
  match present with
  | .warm => temp < 105
  | .hot => temp < 125
  | .normal | .shutdown => false

/-- The level that a sample indicates (R150). -/
def indicated (present : Level) (temp : Int) : Level :=
  if present.rank < (levelEntered temp).rank then levelEntered temp
  else if fallsBelow present temp then levelLeft present temp
  else present

/-- The nearer to a present level of two levels on the same side of it. -/
def nearer (present a b : Level) : Level :=
  if (a.rank - present.rank) + (present.rank - a.rank) ≤ (b.rank - present.rank) + (present.rank - b.rank) then a else b

/-- A sample's indication moves a level with its predecessor's on the same side, or becomes the previous indication; a
cluster at SHUTDOWN is not moved (R150). -/
def Thermal.assess (x : Thermal) (temp : Int) : Thermal :=
  if x.level = .shutdown then x
  else
    let i := indicated x.level temp
    match x.previous with
    | some j =>
      if (x.level.rank < i.rank && x.level.rank < j.rank) || (i.rank < x.level.rank && j.rank < x.level.rank) then
        { level := nearer x.level j i, previous := none }
      else { x with previous := some i }
    | none => { x with previous := some i }

/-- Replace a cluster's thermal state. -/
def State.setThermal (s : State) (cl : Cluster) (x : Thermal) : State :=
  s.setProt { s.prot with clusters := s.prot.clusters.set x cl }

/-- A change across Warm is handed to the cluster's keys (R151, R95). -/
def State.handWarmth (s : State) (cl : Cluster) (wasWarm : Bool) : State :=
  if s.isWarm cl = wasWarm then s else s.forKeys (keysOf cl) State.rewarmKey

/-- A cluster alone is shut down: its keys in STRIKE or HOLD go off and its keys' records leave; cluster P's pedals rest
(R74, R95, R112, R152). DESIGN CHOICE: the keys go off first, so the SOUNDING records have left when an ARMED one leaves its
claim (notes/assumptions/52.md). -/
def State.shutCluster (s : State) (cl : Cluster) : State :=
  match cl with
  | .p => (s.restPedal .damper).restPedal .shift
  | _ =>
    let s := s.forKeys (keysOf cl) State.cutKey
    s.dropNotes fun n => clusterOf n.driver = cl

/-- A cluster's level has risen to SHUTDOWN (R152). -/
def State.thermalShutdown (s : State) (cl : Cluster) : State :=
  if s.store.thermalGlobal then s.silence else s.shutCluster cl

/-- A temperature sample of a cluster completes (R143, R150 to R152). -/
def State.onTemperature (s : State) (cl : Cluster) (temp : Int) : State :=
  let before := s
  let s := s.setConv { s.conv with temps := s.conv.temps.set temp cl }
  let s := s.setThermal cl ((s.prot.clusters.get cl).assess temp)
  let s := s.handWarmth cl (before.isWarm cl)
  if s.isShut cl && !before.isShut cl then (s.thermalShutdown cl).settleMode else s

/-- The conversion in flight is a temperature sample that completes. -/
def State.onTemperatureSample (s : State) (temp : Int) : State :=
  match s.conversionDone with
  | some x =>
    match x.source, x.probe with
    | .cluster cl, none => (s.onTemperature cl temp).endConversion x
    | _, _ => s
  | none => s

/-- SUPPLY_SAMPLE (R145). -/
def execSupplySample (t : Time) (value : BitVec 10) (s : State) : Host.Outcome State Fault Refusal :=
  .next (s.noticedEvent t .supply fun s => s.onSupplySample value.toNat)

/-- TEMPERATURE_SAMPLE (R150). -/
def execTemperatureSample (t : Time) (value : Int) (s : State) : Host.Outcome State Fault Refusal :=
  .next (s.noticedEvent t .thermal fun s => s.onTemperatureSample value)

end Sys2Proof.Machine
end

