-- ==== Sys2Proof/Machine/Probes.lean ====
section
/-! DEFINITION. Probes and replies (10.4): the probe items, the making up of replies with the report marks they carry, and
the commands PROBE, PROBE_CONVERSION, NOTICE_FRAME and REPLY_FRAME. -/

namespace Sys2Proof.Machine

/-! ### Items (R182, R183) -/

/-- The counter that an item code names (R183). -/
def counterOf : Nat → Option Counter
  | 16 => some .rejectedStrobes
  | 17 => some .mergedLines
  | 18 => some .notesDroppedListFull
  | 19 => some .notesDroppedFault
  | 20 => some .lateStrikes
  | 21 => some .repetitionDelays
  | 22 => some .forcedReleases
  | 23 => some .projectedShades
  | 24 => some .misalignedFrames
  | 25 => some .shadeFramesShed
  | 26 => some .shadeSegmentsEvicted
  | 27 => some .pedalEventsShed
  | 28 => some .overdrawnClaims
  | 29 => some .unannouncedStrikes
  | 30 => some .lateClaims
  | 31 => some .intakeLost
  | 32 => some .objections
  | _ => none

/-- Headroom now: over the next millisecond, both claim slots counted (R139); 0 while no supply limit is loaded (R182). -/
def State.headroomNow (s : State) : Nat := s.headroom s.now (after s.now 1000) none

/-- The value of an item that needs no conversion; a code that names no item has the value 0 (R182). -/
def State.itemValue (s : State) (item : Nat) : Int :=
  match item with
  | 0 => s.mode.code
  | 1 => s.scan.line.toNat
  | 2 => s.notes.length
  | 3 => s.headroomNow
  | 4 => s.share.ownLoad
  | n =>
    match counterOf n with
    | some i => s.counters.get i
    | none => 0

/-- The stage a driver current argument names: 0 to 11 the keys, 12 the damper, 13 the shift (R144). -/
def stageOf (argument : Nat) : Option Stage :=
  if hk : argument < 12 then some (.key ⟨argument, hk⟩)
  else if argument = 12 then some (.pedal .damper)
  else if argument = 13 then some (.pedal .shift)
  else none

/-- The source of a sense item; none when the argument is out of range (R144). -/
def senseSource (item argument : Nat) : Option Source :=
  match item with
  | 5 => some .supply
  | 6 => if argument < 4 then some (.cluster (clusterOfFrame argument)) else none
  | 7 => (stageOf argument).map .stage
  | _ => none

/-- A stage's coil is on: a key in STRIKE or HOLD, a pedal MOVING or HOLDING. -/
def State.coilOn (s : State) : Stage → Bool
  | .key k => (s.key k).stroke.driven
  | .pedal p =>
    match (s.pedal p).state with
    | .moving _ | .holding => true
    | .resting | .faulted => false

/-- The result of a probe conversion: a stage whose coil is off shows 0 (R144). -/
def State.sensed (s : State) (source : Source) (value : Int) : Int :=
  match source with
  | .stage stage => if s.coilOn stage then value else 0
  | .supply | .cluster _ => value

/-! ### Replies (R179, R181) -/

/-- Make up the reply of a probe: it reads the condition byte and, for an item without a conversion, the value, at this
moment (R181). -/
def State.replyFrame (s : State) (x : HeldProbe) : Payload :=
  let value := x.sensed.getD (s.itemValue x.probe.item.toNat)
  .reply x.probe.requester x.probe.item s.conditionByte (BitVec.ofInt 24 value)

/-- The reply just made up carries the report marks as they stand (R179). -/
def State.carryMarks (s : State) : State :=
  s.setControl { s.control with carriedLoss := s.control.lossMark, carriedDrop := s.control.dropMark }

/-- An answer of headroom uses every entry of the peer load table, so it first removes what has expired (R122). -/
def State.purgeFor (s : State) (x : HeldProbe) : State := if x.probe.item = 3 then s.purge else s

/-- A ready probe is answered according to the REPLY slot (R181). -/
def State.answerProbe (s : State) (x : HeldProbe) : State :=
  match (s.slot .reply).state with
  | .sending => s.setControl { s.control with heldProbe := some x }
  | .queued =>
    let s := s.purgeFor x
    (s.overwriteFrame .reply (s.replyFrame x)).carryMarks
  | .empty | .sent | .failed | .cancelled =>
    let s := s.purgeFor x
    (s.placeFrame .reply (some (s.replyFrame x))).carryMarks

/-- A PROBE frame handled (R181): a sense item with a valid argument goes to the converter, and every other is ready now. -/
def State.takeProbe (s : State) (e : Entry) (target : StationNo) (item argument : Byte) : State :=
  if target = s.number && (s.mode.active || s.mode = .unvoiced) then
    let probe : ProbeId := { requester := e.sender, item, argument }
    match senseSource item.toNat argument.toNat with
    | some source => s.requestProbe source probe
    | none =>
      let sense := 5 ≤ item.toNat && item.toNat ≤ 7
      s.answerProbe { probe, sensed := if sense then some 0 else none }
  else s

/-- A probe conversion completes: its probe is ready with the result (R144, R181). -/
def State.onProbeConversion (s : State) (value : Int) : State :=
  match s.conversionDone with
  | some x =>
    match x.probe with
    | some probe => (s.answerProbe { probe, sensed := some (s.sensed x.source value) }).endConversion x
    | none => s
  | none => s

/-- PROBE (R181). -/
def execProbe (t : Time) (s : State) : Host.Outcome State Fault Refusal :=
  .next (s.event t fun s =>
    s.handle fun e =>
      match e.payload with
      | .probe target item argument => some fun s => s.takeProbe e target item argument
      | _ => none)

/-- PROBE_CONVERSION (R144). -/
def execProbeConversion (t : Time) (value : Int) (s : State) : Host.Outcome State Fault Refusal :=
  .next (s.event t fun s => s.onProbeConversion value)

/-- NOTICE_FRAME (R169): discarded at handling. -/
def execNoticeFrame (t : Time) (s : State) : Host.Outcome State Fault Refusal :=
  .next (s.event t fun s =>
    s.handle fun e =>
      match e.payload with
      | .notice _ _ => some fun s => s
      | _ => none)

/-- REPLY_FRAME (R169): discarded at handling. -/
def execReplyFrame (t : Time) (s : State) : Host.Outcome State Fault Refusal :=
  .next (s.event t fun s =>
    s.handle fun e =>
      match e.payload with
      | .reply _ _ _ _ => some fun s => s
      | _ => none)

end Sys2Proof.Machine
end

