-- ==== Sys2Proof/Machine/StationControl.lean ====
section
/-! DEFINITION. Station control (chapter 10) with the store reader (11.1): reset and start, the TRANSPORT and HALT frames,
and the commands RESET, STORE_READ, PLAY, STOP, CLEAR, TRIM, RESTART and HALT. -/

namespace Sys2Proof.Machine

/-! ### Reset and start (R173, R174, R178, R184) -/

/-- The effect of the reset pin: every unit at its reset values, in LOADING, with the station number read from the straps
(R173, R178). The timebase runs on and the commands that wait stay. -/
def State.restart (s : State) (straps : StationNo) : State :=
  { State.reset with now := s.now, number := straps, pending := s.pending }

/-- The entry to STANDBY from LOADING with a voicing: a LOAD is queued and the converter's schedule begins at frame 0 with
V_meas at V_nom (R174, R116, R141, R143). -/
def State.enterStandby (s : State) (v : Voicing) : State :=
  let s := { s with voicing := some v, mode := .standby }
  let s := s.setConv { s.conv with vMeas := v.vNom, schedule := some { due := s.now, phase := 0 } }
  s.queueLoad

/-- The store has been read, twice where the first read failed (R184). -/
def State.onStoreRead (s : State) (first second : List Byte) : State :=
  if s.mode = .loading then
    match storeImage first second with
    | none => s.setMode .unvoiced
    | some image => if formatRight image then s.enterStandby (readVoicing image) else s.setMode .unvoiced
  else s

/-! ### Addressing (R175, R177, R188) -/

/-- A target byte addresses the station: its own number, or all stations when it reads 255 (R188). -/
def State.addressed (s : State) (target : Byte) : Bool :=
  target = 255 || target.toNat = s.number.toNat

/-- A TRANSPORT command of a code, addressed to the station and handled in a mode that handles it (R175). -/
def State.transport (s : State) (code : Byte) (act : Byte → State → State) : State :=
  s.handle fun e =>
    match e.payload with
    | .transport command target argument =>
      if command = code then
        some fun s => if s.mode.active && s.addressed target then act argument s else s
      else none
    | _ => none

/-! ### PLAY (R175) -/

/-- Every note track not in CLOSED is marked orphaned (R18). -/
def State.orphanOpenTracks (s : State) : State :=
  s.setTracks (Vector.ofFn fun i : Fin 24 =>
    match s.store.function i with
    | .note _ => if s.tracks[i].decode = .closed then s.tracks[i] else { s.tracks[i] with orphan := true }
    | _ => s.tracks[i])

/-- The entry to PLAY: open note tracks are orphaned and shade and pedals are re-announced (R175, R28, R102). -/
def State.enterPlay (s : State) : State :=
  let s := (s.setMode .play).orphanOpenTracks
  let s := s.reannouncePlay
  s.reannouncePedals s.shade.generatorLine

/-- PLAY by mode (R175). -/
def State.onPlay (s : State) : State :=
  match s.mode with
  | .standby | .winddown => s.enterPlay
  | .loading | .unvoiced | .play | .silenced => s

/-! ### STOP (R176) -/

/-- STOP takes PLAY to WINDDOWN: the list winds down, the pedals get UP actions and the claims are asked to cancel; a
station already quiescent goes on to STANDBY (R76, R113, R138, R176). -/
def State.onStop (s : State) : State :=
  if s.mode = .play then
    let s := (s.setMode .winddown).stopNotes
    let s := (s.actPedal .damper .up true).actPedal .shift .up true
    s.cancelClaims.settleMode
  else s

/-! ### CLEAR (R154, R97, R111) -/

/-- A key at a CLEAR: FAULTED goes to REST, and the open-load warning is cleared (R97). -/
def State.clearKey (s : State) (k : Driver) : State :=
  let key := s.key k
  s.setKey k
    { key with stroke := if key.stroke = .faulted then .rest else key.stroke, openWarning := false }

/-- A pedal at a CLEAR: FAULTED becomes RESTING at duty 0 (R111). -/
def State.clearPedal (s : State) (p : Pedal) : State :=
  if (s.pedal p).state = .faulted then s.drivePedal p .resting 0 else s

/-- The level a cleared cluster takes at once from its held temperature (R154). -/
def clearedLevel (temp : Int) : Level := if 125 ≤ temp then .hot else if 105 ≤ temp then .warm else .normal

/-- A cluster at a CLEAR: a shutdown is cleared below 150 °C; the change below Warm is handed to its keys, and the end of a
cluster P shutdown to the pedals (R154, R112). -/
def State.clearCluster (s : State) (cl : Cluster) : State :=
  let temp := s.conv.temps.get cl
  if s.isShut cl && temp < 150 then
    let s := (s.setThermal cl { level := clearedLevel temp, previous := none }).handWarmth cl true
    if cl = .p then s.restorePedals else s
  else s

/-- The HALT record, supply faults and supply warnings at a CLEAR (R154). -/
def Protection.clear (x : Protection) : Protection :=
  { x with
    halt := false
    uvFault := x.uvFault && x.uv.present
    ovsFault := x.ovsFault && x.ovs.present
    uvWarning := x.uvWarning && x.uv.present
    ovsWarning := x.ovsWarning && x.ovs.present }

/-- A CLEAR: every latched fault and warning whose cause is absent is cleared, and a SILENCED station without a
station-level cause goes to STANDBY (R154). -/
def State.onClear (s : State) : State :=
  let s := s.forKeys (List.finRange 12) State.clearKey
  let s := (s.clearPedal .damper).clearPedal .shift
  let s := s.setProt s.prot.clear
  let s := Cluster.all.foldl State.clearCluster s
  if s.mode = .silenced && !s.stationCause then s.setMode .standby else s

/-! ### TRIM and HALT (R39, R177) -/

/-- TRIM sets the station trim to the signed argument, clamped to −64..+63 (R39). -/
def State.onTrim (s : State) (argument : Byte) : State :=
  s.setShade { s.shade with trim := clamp argument.toInt (-64) 63 }

/-- HALT enters the latched fault set and makes the station SILENCED (R177). -/
def State.onHalt (s : State) : State := (s.setProt { s.prot with halt := true }).silence

/-! ### Commands -/

/-- RESET (R173). -/
def execReset (t : Time) (straps : StationNo) (s : State) : Host.Outcome State Fault Refusal :=
  .next (s.event t fun s => s.restart straps)

/-- STORE_READ (R184). -/
def execStoreRead (t : Time) (first second : List Byte) (s : State) : Host.Outcome State Fault Refusal :=
  .next (s.noticedEvent t .mode fun s => s.onStoreRead first second)

/-- PLAY (R175). -/
def execPlay (t : Time) (s : State) : Host.Outcome State Fault Refusal :=
  .next (s.noticedEvent t .mode fun s => s.transport 1 fun _ s => s.onPlay)

/-- STOP (R176). -/
def execStop (t : Time) (s : State) : Host.Outcome State Fault Refusal :=
  .next (s.noticedEvent t .mode fun s => s.transport 2 fun _ s => s.onStop)

/-- CLEAR (R154). -/
def execClear (t : Time) (s : State) : Host.Outcome State Fault Refusal :=
  .next (s.noticedEvent t .cleared fun s => s.transport 3 fun _ s => s.onClear)

/-- TRIM (R39). -/
def execTrim (t : Time) (s : State) : Host.Outcome State Fault Refusal :=
  .next (s.event t fun s => s.transport 4 fun argument s => s.onTrim argument)

/-- RESTART (R178). -/
def execRestart (t : Time) (straps : StationNo) (s : State) : Host.Outcome State Fault Refusal :=
  .next (s.event t fun s => s.transport 5 fun _ s => s.restart straps)

/-- HALT (R177). -/
def execHalt (t : Time) (s : State) : Host.Outcome State Fault Refusal :=
  .next (s.noticedEvent t .fault fun s =>
    s.handle fun e =>
      match e.payload with
      | .halt target => some fun s => if s.mode.active && s.addressed target then s.onHalt else s
      | _ => none)

end Sys2Proof.Machine
end

