-- ==== Sys2Proof/Machine/LinkController.lean ====
section
/-! DEFINITION. The link controller (chapter 9): attempts, arbitration and their ends, mute, delivery and the intake queue
with its handler, and the commands HANDLING_END, ATTEMPT_START, ARBITRATION_LOST, ATTEMPT_END, FRAME_DELIVERY, BROKEN_FRAME
and LINE_IDLE. -/

namespace Sys2Proof.Machine

/-! ### The intake queue and its handler (R168, R169) -/

/-- A frame that some handling command acts on. Every frame is, but a TRANSPORT whose code names no command: it is ignored,
so its handling has nothing left to do (R175, notes/assumptions/10.md). -/
def Payload.hasCommand : Payload → Bool
  | .transport command _ _ => 1 ≤ command.toNat && command.toNat ≤ 5
  | _ => true

/-- The handler takes the oldest entry when no handling is in progress (R169). -/
def State.takeNext (s : State) : State :=
  match s.link.handling, s.link.intake with
  | none, e :: rest =>
    s.setLink { s.link with intake := rest, handling := some { entry := e, done := !e.payload.hasCommand } }
  | _, _ => s

/-- A frame is entered in the intake queue while fewer than `places` are held, and is otherwise lost and counted (R168). -/
def State.enterIntake (s : State) (e : Entry) (places : Nat) : State :=
  if s.link.intake.length < places then (s.setLink { s.link with intake := s.link.intake ++ [e] }).takeNext
  else s.countLoss

/-- An unhandled CLAIM or LOAD frame holds the claim slots (R132): one in the queue, or one whose handling has not ended. -/
def Payload.interlocks : Payload → Bool
  | .claim .. | .load _ => true
  | _ => false

/-- The claim slots are held back (R132, R167). -/
def State.interlocked (s : State) : Bool :=
  s.link.intake.any (fun e => e.payload.interlocks) ||
    match s.link.handling with
    | some h => h.entry.payload.interlocks
    | none => false

/-- The handling in progress ends once its effects are complete, and the handler takes the next entry (R169). -/
def State.onHandlingEnd (s : State) : State :=
  match s.link.handling with
  | some h => if h.done then (s.setLink { s.link with handling := none }).takeNext else s
  | none => s

/-! ### Choosing the next frame (R167) -/

/-- A mode lets a slot begin frames (R170). -/
def Mode.begins (m : Mode) (i : Slot) : Bool :=
  match m with
  | .loading => false
  | .unvoiced => i = .reply
  | .standby | .play | .winddown | .silenced => true

/-- A slot is a claim slot. -/
def Slot.isClaim : Slot → Bool
  | .claim _ => true
  | _ => false

/-- A slot is ready: QUEUED, or SENDING and awaiting a retry, and not held back (R167). No attempt is on the line when the
controller chooses, so a SENDING slot awaits its retry. -/
def State.ready (s : State) (i : Slot) : Bool :=
  ((s.slot i).state = .queued || (s.slot i).state = .sending) && s.mode.begins i && !(i.isClaim && s.interlocked)

/-- The slots in the order of choice: lowest class first, and within a class by queued time (R167). -/
def State.slotOrder (s : State) : List Slot :=
  (if earlier (s.slot (.shade .treble)).queuedAt (s.slot (.shade .bass)).queuedAt then
      [.shade .treble, .shade .bass] else [.shade .bass, .shade .treble]) ++
    [.pedal] ++
    (if s.claimAFirst then [.claim .a, .claim .b] else [.claim .b, .claim .a]) ++
    [.load, .notice, .reply]

/-- The station's next frame while the line is idle, and the station neither muted nor sending (R158, R164, R167). -/
def State.chosen (s : State) : Option Slot :=
  if s.link.line = .idle && s.link.onLine.isNone && !s.link.muted then s.slotOrder.find? s.ready else none

/-! ### Beginning an attempt (R158, R133, R134) -/

/-- The start offset of a claim frame that ends at a time, ms (R134). -/
def claimOffset (x : Claim) (ends : Time) : Nat :=
  if reached ends x.windowStart then 0 else min 255 ((timeDiff x.windowStart ends).toNat / 1000)

/-- The duration of a claim frame that ends at a time, ms (R134). -/
def claimDuration (x : Claim) (ends : Time) : Nat :=
  let begins := after ends (1000 * claimOffset x ends)
  min 255 (max 1 (ceilDiv (timeDiff x.windowEnd begins).toNat 1000))

/-- The frame of a claim, with its timing bound from the frame's expected end (R134). -/
def claimFrame (x : Claim) (ends : Time) : Payload :=
  .claim x.tag x.overdrawn x.late (fieldOf 16 x.amount) (fieldOf 8 (claimOffset x ends))
    (fieldOf 8 (claimDuration x ends))

/-- Put a slot's frame on the line: the slot becomes SENDING when it was QUEUED (R158). -/
def State.beginAttempt (s : State) (i : Slot) (frame : Payload) : State :=
  let x := s.slot i
  let s := s.setSlot i { x with state := .sending }
  s.setLink { s.link with onLine := some { slot := i, wasQueued := x.state = .queued, frame } }

/-- The amount of a claim slot is weighed against the headroom at the start of each attempt (R133). -/
def State.weighClaim (s : State) (c : ClaimId) : State :=
  let s := s.purge
  if s.misfits c then s.markOverdrawn c else s

/-- Begin the attempt of a claim slot: an attempt whose window has wholly passed does not begin and the slot becomes
CANCELLED (R134), which can end WINDDOWN (R176). -/
def State.beginClaim (s : State) (c : ClaimId) : State :=
  let ends := after s.now Config.claimFrameTime
  match (s.claimSlot c).claim with
  | none => s
  | some x =>
    if reached ends x.windowEnd then (s.moveSlot (.claim c) .cancelled).settleMode
    else
      let s := s.weighClaim c
      match (s.claimSlot c).claim with
      | some x => s.beginAttempt (.claim c) (claimFrame x ends)
      | none => s

/-- A start bit that the station did not send is read on the idle line: it becomes a receiver of that frame, and its own
frame waits for the next idle (R158). -/
def State.hearStart (s : State) : State :=
  if s.link.line = .idle && s.link.onLine.isNone then s.setLink { s.link with line := .receiving } else s

/-- The station begins its chosen ready frame (R158). -/
def State.onAttemptStart (s : State) : State :=
  match s.chosen with
  | some (.claim c) => s.beginClaim c
  | some i =>
    match (s.slot i).frame with
    | some frame => s.beginAttempt i frame
    | none => s
  | none => s

/-! ### Owners told (R163) -/

/-- A held LOAD value is placed in its slot (R117). -/
def State.placeHeldLoad (s : State) : State :=
  match s.share.heldLoad with
  | some v => (s.setShare { s.share with heldLoad := none }).placeFrame .load (some (.load (fieldOf 12 v)))
  | none => s

/-- A held LOAD value overwrites the frame in its slot (R117, R159). -/
def State.overwriteHeldLoad (s : State) : State :=
  match s.share.heldLoad with
  | some v => (s.setShare { s.share with heldLoad := none }).overwriteFrame .load (.load (fieldOf 12 v))
  | none => s

/-- The held notice becomes none. -/
def State.dropHeldNotice (s : State) : State := s.setControl { s.control with heldNotice := none }

/-- A held notice is placed in its slot (R180). -/
def State.placeHeldNotice (s : State) : State :=
  match s.control.heldNotice with
  | some n => s.dropHeldNotice.placeFrame .notice (some (.notice n.condition n.cause))
  | none => s

/-- A held notice overwrites the frame in its slot (R159). -/
def State.overwriteHeldNotice (s : State) : State :=
  match s.control.heldNotice with
  | some n => s.dropHeldNotice.overwriteFrame .notice (.notice n.condition n.cause)
  | none => s

/-- A held probe has its reply made up (R159, R181). -/
def State.answerHeldProbe (s : State) : State :=
  match s.control.heldProbe with
  | some x => (s.setControl { s.control with heldProbe := none }).answerProbe x
  | none => s

/-- A REPLY ends SENT: each report mark that it carried as set is cleared unless it has been set again (R179). -/
def State.clearMarks (s : State) : State :=
  let x := s.control
  s.setControl
    { x with lossMark := x.lossMark && !x.carriedLoss, dropMark := x.dropMark && !x.carriedDrop,
             carriedLoss := false, carriedDrop := false }

/-- A claim frame ends SENT: the unit keeps the claim as departed until its echo is handled (R121). -/
def State.departClaim (s : State) (c : ClaimId) : State :=
  match (s.claimSlot c).claim with
  | some x =>
    s.setShare
      { s.share with
        departed := some
          { tag := x.tag, amount := x.amount, windowStart := x.windowStart, windowEnd := x.windowEnd } }
  | none => s

/-- A slot's owner is told that its frame is SENT or FAILED, and refills the slot as its own rules state (R163). -/
def State.tellOwner (s : State) (i : Slot) (sent : Bool) : State :=
  match i with
  | .shade h => s.feedShade h
  | .pedal => s.feedPedal
  | .claim c => if sent then s.departClaim c else s
  | .load => s.placeHeldLoad
  | .notice => s.placeHeldNotice
  | .reply => (if sent then s.clearMarks else s).answerHeldProbe

/-! ### The end of an attempt (R163 to R165) -/

/-- The own echo of a clean frame: entered outside LOADING and UNVOICED (R168, R170). -/
def State.enterEcho (s : State) (frame : Payload) : State :=
  if s.mode.active then
    s.enterIntake { sender := s.number, payload := frame, own := true, arrival := s.now } Config.intakeAll
  else s

/-- An own attempt ends clean: SENT, the objection count falls, the echo is entered, the owner is told (R163). DESIGN
CHOICE: the echo is entered before the owner is told (notes/assumptions/47.md). -/
def State.attemptClean (s : State) (a : Attempt) : State :=
  let s := s.moveSlot a.slot .sent
  let s := s.setLink { s.link with objectionCount := s.link.objectionCount - 1 }
  (s.enterEcho a.frame).tellOwner a.slot true

/-- The objection count rises by 1, and at 32 the station is muted (R163, R164). -/
def Link.objected (x : Link) : Link :=
  let n := min (x.objectionCount + 1) Config.muteCount
  { x with objectionCount := n, muted := x.muted || n = Config.muteCount }

/-- What follows an objected attempt at its slot: a pending cancellation makes it CANCELLED, with a fit when a recheck asked
for it (R131, R138); the fourth objected attempt makes it FAILED; otherwise it awaits a retry, for which a held LOAD value
is written in (R163). -/
def State.afterObjection (s : State) (i : Slot) : State :=
  match (s.slot i).cancel with
  | some kind =>
    let s := s.moveSlot i .cancelled
    match i, kind with
    | .claim c, .refit => s.refitAndQueue c
    | _, _ => s
  | none =>
    if Config.attemptLimit ≤ (s.slot i).attempts then (s.moveSlot i .failed).tellOwner i false
    else if i = .load then s.overwriteHeldLoad
    else s

/-- An own attempt ends objected (R163). -/
def State.attemptObjected (s : State) (a : Attempt) : State :=
  let s := (s.count .objections).setLink s.link.objected
  let s := s.setSlot a.slot { s.slot a.slot with attempts := (s.slot a.slot).attempts + 1 }
  s.afterObjection a.slot

/-- What the sender read of its own frame makes the attempt in flight an objected one (R162). -/
def State.readsObjected (s : State) (bits : List Bool) (ending : ObjectionBits) : Bool :=
  match s.link.onLine with
  | some a => ownObjected s.number a.frame bits ending
  | none => false

/-- An own attempt ends, objected or clean (R163). -/
def State.onAttemptEnd (s : State) (objected : Bool) : State :=
  match s.link.onLine with
  | some a =>
    let s := s.setLink { s.link with onLine := none, line := .idle }
    (if objected then s.attemptObjected a else s.attemptClean a).settleMode
  | none => s

/-! ### Arbitration (R159) -/

/-- An item that an owner kept while its slot was SENDING is put into the slot gone back to QUEUED (R159). -/
def State.putHeld (s : State) (i : Slot) : State :=
  match i with
  | .load => s.overwriteHeldLoad
  | .notice => s.overwriteHeldNotice
  | .reply => s.answerHeldProbe
  | .shade _ | .pedal | .claim _ => s

/-- A slot is QUEUED again after a withdrawn attempt; a cancellation requested meanwhile is decided now (R159, R166). -/
def State.requeue (s : State) (i : Slot) : State :=
  let cancel := (s.slot i).cancel
  let s := (s.moveSlot i .queued).putHeld i
  match cancel with
  | none => s
  | some kind =>
    let s := s.moveSlot i .cancelled
    match i, kind with
    | .claim c, .refit => s.refitAndQueue c
    | _, _ => s

/-- The own attempt is withdrawn and the station receives the frame that won (R159). -/
def State.onArbitrationLost (s : State) : State :=
  match s.link.onLine with
  | some a =>
    let s := s.setLink { s.link with onLine := none, line := .receiving }
    (if a.wasQueued then s.requeue a.slot else s).settleMode
  | none => s

/-! ### Frames of other stations (R160, R161, R165, R168) -/

/-- The controller receives: it has taken the line as idle, and no attempt of its own is on it (R158, R171). -/
def State.receives (s : State) : Bool := s.link.line ≠ .unread && s.link.onLine.isNone

/-- A broken frame: the line is no longer taken as idle, and a muted station's clean count returns to 0 (R158, R160, R165). -/
def State.breakFrame (s : State) : State := s.setLink { s.link with line := .unread, cleanCount := 0 }

/-- A muted station counts a clean frame of another station, and leaves mute at 64 (R165). -/
def Link.heardClean (x : Link) : Link :=
  if x.muted then
    if Config.unmuteFrames ≤ x.cleanCount + 1 then { x with muted := false, objectionCount := 0, cleanCount := 0 }
    else { x with cleanCount := x.cleanCount + 1 }
  else x

/-- A clean frame of another station is delivered: nothing is entered in LOADING; in UNVOICED a PROBE is entered and a
RESTART addressed to the station acts; otherwise every frame is entered (R161, R168, R170, R178). -/
def State.deliver (s : State) (straps sender : StationNo) (f : Payload) : State :=
  let e : Entry := { sender, payload := f, own := false, arrival := s.now }
  match s.mode, f with
  | .loading, _ => s
  | .unvoiced, .probe .. => s.enterIntake e Config.intakeShared
  | .unvoiced, .transport command target _ => if command = 5 && s.addressed target then s.restart straps else s
  | .unvoiced, _ => s
  | _, _ => s.enterIntake e Config.intakeShared

/-- Another station's frame ends on the line (R160, R161): broken, objected by this station or another, or clean. -/
def State.onDelivery (s : State) (straps : StationNo) (bits : List Bool) (objection : Bool) : State :=
  if s.receives then
    match readFrame bits with
    | .broken => s.breakFrame
    | .damaged => s.setLink { s.link with line := .idle, cleanCount := 0 }
    | .good sender f =>
      if objection then s.setLink { s.link with line := .idle, cleanCount := 0 }
      else
        let s := s.setLink { s.link.heardClean with line := .idle }
        s.deliver straps sender f
  else s

/-- Ten consecutive recessive bits have been read on a line not taken as idle (R158). -/
def State.onLineIdle (s : State) : State :=
  if s.link.line = .unread then s.setLink { s.link with line := .idle } else s

/-! ### Commands -/

/-- HANDLING_END (R169). -/
def execHandlingEnd (t : Time) (s : State) : Host.Outcome State Fault Refusal :=
  .next (s.event t State.onHandlingEnd)

/-- ATTEMPT_START (R158). -/
def execAttemptStart (t : BitTime) (s : State) : Host.Outcome State Fault Refusal :=
  .next (s.noticedEvent t.time .mode fun s => if t.startBit then s.hearStart else s.onAttemptStart)

/-- An event of the link, whose notice names the part of the condition byte that it changed (R180). -/
def State.linkEvent (s : State) (t : Time) (act : State → State) : State :=
  let s' := s.event t act
  State.notify s (linkCause s s') s'

/-- ARBITRATION_LOST (R159). -/
def execArbitrationLost (t : Time) (s : State) : Host.Outcome State Fault Refusal :=
  .next (s.linkEvent t State.onArbitrationLost)

/-- ATTEMPT_END (R162, R163). -/
def execAttemptEnd (t : Time) (bits : List Bool) (ending : ObjectionBits) (s : State) :
    Host.Outcome State Fault Refusal :=
  .next (s.linkEvent t fun s => s.onAttemptEnd (s.readsObjected bits ending))

/-- FRAME_DELIVERY (R161). -/
def execFrameDelivery (t : Time) (straps : StationNo) (bits : List Bool) (objection : Bool) (s : State) :
    Host.Outcome State Fault Refusal :=
  .next (s.linkEvent t fun s => s.onDelivery straps bits objection)

/-- BROKEN_FRAME (R160). -/
def execBrokenFrame (t : Time) (s : State) : Host.Outcome State Fault Refusal :=
  .next (s.event t fun s => if s.receives then s.breakFrame else s)

/-- LINE_IDLE (R158). -/
def execLineIdle (t : Time) (s : State) : Host.Outcome State Fault Refusal :=
  .next (s.event t State.onLineIdle)

end Sys2Proof.Machine
end

