-- ==== Sys2Proof/Machine/Roll.lean ====
section
/-! DEFINITION. Reading the roll (chapter 1): the strobe window, the capture sweep, the line counter and ring, the roll
state, the decoding of tracks and the routing of their events, and the commands STROBE, CAPTURE_SWEEP_COMPLETE, STALL and
HOLD_OVER_END. -/

namespace Sys2Proof.Machine

/-! ### Decoding a track (R13, R14, R18) -/

/-- What a line confirms on a track. -/
inductive Edge where
  | opening | closing
deriving DecidableEq, Repr

/-- The value of a track: the brighter of its cells (R13). -/
def TrackEntry.value (e : TrackEntry) (cells : List Byte) : Nat :=
  let a := (cells.getD e.cellA 0).toNat
  match e.cellB with
  | some b => max a (cells.getD b 0).toNat
  | none => a

/-- A track whose decode state reaches CLOSED: its orphan mark is cleared (R18). -/
def Track.close (x : Track) (runStart : Option Line) : Track := { x with decode := .closed, runStart, orphan := false }

/-- The move of a decode state by a track value at a line, and what it confirms (the table of R14). -/
def Track.move (v : Voicing) (line : Line) (value : Nat) (x : Track) : Track × Option Edge :=
  match x.decode with
  | .closed =>
    if v.tOpen ≤ value then
      if v.kOpen ≤ 1 then ({ x with decode := .openHole, runStart := some line }, some .opening)
      else ({ x with decode := .opening 1, runStart := some line }, none)
    else (x, none)
  | .opening n =>
    if v.tOpen ≤ value then
      if v.kOpen ≤ n + 1 then ({ x with decode := .openHole }, some .opening)
      else ({ x with decode := .opening (n + 1) }, none)
    else (x.close none, none)
  | .openHole =>
    if value ≤ v.tClose then
      if v.kClose ≤ 1 then (x.close (some line), some .closing)
      else ({ x with decode := .closing 1, runStart := some line }, none)
    else (x, none)
  | .closing n =>
    if value ≤ v.tClose then
      if v.kClose ≤ n + 1 then (x.close x.runStart, some .closing)
      else ({ x with decode := .closing (n + 1) }, none)
    else ({ x with decode := .openHole, runStart := none }, none)

/-- The move of one track at a line; an UNUSED track is not decoded (R12). -/
def State.moveTrack (s : State) (line : Line) (cells : List Byte) (i : Fin 24) : Track × Option Edge :=
  match s.store.function i with
  | .unused => (s.tracks[i], none)
  | _ => s.tracks[i].move s.store line (s.store.tracks[i].value cells)

/-! ### Handing on a line's events (R15 to R20) -/

/-- The time a track event carries for a line: the ring's, or that of the oldest line it holds (R15). -/
def State.dateOf (s : State) (line : Line) : Time :=
  match s.scan.ringTime line with
  | .at t => t
  | .tooOld => (s.scan.ring.head?.map RingEntry.time).getD s.now
  | .notYet => s.now

/-- Set the orphan mark of a track (R18). -/
def State.orphanTrack (s : State) (i : Fin 24) : State := s.setTracks (s.tracks.set i { s.tracks[i] with orphan := true })

/-- A confirmed event of a note track that is not orphaned, dated to its run start line (R15, R19). -/
def State.noteEdge (s : State) (i : Fin 24) (k : Driver) (runStart : Line) (e : Edge) : State :=
  match e with
  | .opening =>
    let s' := s.onset k runStart (s.dateOf runStart)
    match s.onsetAnswer with
    | .refused => s'.orphanTrack i
    | .taken | .notTaken => s'
  | .closing => s.closeNote k (s.dateOf runStart)

/-- Hand on what a line has confirmed on a track: an orphaned note track hands on nothing (R18), and a control track's event
goes to the unit whose role the station holds (R20). `orphaned` is the mark before the line. -/
def State.handEdge (s : State) (line : Line) (i : Fin 24) (orphaned : Bool) (e : Edge) : State :=
  match s.store.function i with
  | .unused => s
  | .note k => if orphaned then s else s.noteEdge i k (s.tracks[i].runStart.getD line) e
  | .level1 h | .level2 h | .level4 h | .swell h | .accent h | .hush h =>
    if s.store.authority h = some s.number then s.generatorEdge h line else s
  | .sustain | .halfdamp | .soft => if s.isPedalSource then s.pedalEdge line else s

/-- Hand on what a line has confirmed on one track, if anything. `before` is the state before the line was decoded. -/
def State.handTrack (before : State) (line : Line) (cells : List Byte) (s : State) (i : Fin 24) : State :=
  match (before.moveTrack line cells i).2 with
  | some e => s.handEdge line i before.tracks[i].orphan e
  | none => s

/-- Every decoded track moves by its value on a line (R17). -/
def State.moveTracks (s : State) (line : Line) (cells : List Byte) : State :=
  s.setTracks (Vector.ofFn fun i => (s.moveTrack line cells i).1)

/-- Decode a line: every decoded track moves, then the confirmed events are handed on in track table order, and the
generator line becomes this line (R17, R27). -/
def State.decodeLine (s : State) (line : Line) (cells : List Byte) : State :=
  let t := (List.finRange 24).foldl (s.handTrack line cells) (s.moveTracks line cells)
  t.setShade { t.shade with generatorLine := line }

/-- Decode a line and its trailing repeats, in line order; a repeat line has the values of the captured line (R3, R13). -/
def State.decodeLines (s : State) (line : Line) (cells : List Byte) : Nat → State
  | 0 => s.decodeLine line cells
  | n + 1 => (s.decodeLine line cells).decodeLines (line + 1) cells n

/-! ### The capture sweep (R3) -/

/-- A held strobe's sweep begins, with its line, time and trailing repeats (R3). -/
def HeldStrobe.sweep (x : HeldStrobe) : Sweep := { line := x.line, time := x.time, taken := 0, repeats := x.repeats }

/-- The Nth cell has been taken in: the captured line and its repeats are decoded, and a held strobe's sweep starts (R3). -/
def State.onSweepComplete (s : State) (cells : List Byte) : State :=
  match s.scan.sweep with
  | none => s
  | some x =>
    if x.taken + cells.length = s.store.cells then
      let s := s.decodeLines x.line cells x.repeats
      s.setScan { s.scan with sweep := s.scan.held.map HeldStrobe.sweep, held := none }
    else s

/-! ### Accepting a strobe (R2 to R7, R9, R11) -/

/-- A strobe falls inside the strobe window: it arrives less than T_lmin after the last accepted one (R2). -/
def State.insideWindow (s : State) : Bool :=
  match s.scan.lastStrobe with
  | some last => timeDiff s.now last < s.store.tLmin
  | none => false

/-- Enter a line in the ring; a full ring first loses its oldest (R7). -/
def enterRing (e : RingEntry) (ring : List RingEntry) : List RingEntry :=
  (if ring.length < Config.ringLines then ring else ring.tail) ++ [e]

/-- The stall timer's expiry for a strobe accepted now (R9). -/
def State.stallFrom (s : State) : Time := after s.now (1000 * s.store.tLmax)

/-- An accepted strobe's line starts its sweep, becomes the held strobe, or is merged behind it (R3 to R5). -/
def Scan.takeLine (x : Scan) (line : Line) (time : Time) : Scan :=
  match x.sweep, x.held with
  | none, _ => { x with sweep := some { line, time, taken := 0, repeats := 0 } }
  | some _, none => { x with held := some { line, time, repeats := 0 } }
  | some _, some h => { x with held := some { h with repeats := h.repeats + 1 } }

/-- An accepted strobe finds a sweep in flight and a held strobe, so its line is merged (R5). -/
def Scan.merges (x : Scan) : Bool := x.sweep.isSome && x.held.isSome

/-- The accepted line is announced to the shade unit, which counts it (R6, R31). -/
def State.announceLine (s : State) : State := (s.countLine .bass).countLine .treble

/-- A strobe accepted in MOVING: the next line is numbered, timed and swept, held or merged (R3 to R7, R9). -/
def State.nextLine (s : State) : State :=
  let x := s.scan
  let line := x.line + 1
  let s := if x.merges then s.count .mergedLines else s
  let s := s.setScan
    ({ x with lastStrobe := some s.now, line, ring := enterRing { line, time := s.now } x.ring,
              stallAt := some s.stallFrom }.takeLine line s.now)
  (s.announceLine.timePedalEvents line .damper).timePedalEvents line .shift

/-- A track at a roll start: a run in flight returns to the confirmed state before it, and a track returned to CLOSED loses
its orphan mark (R11, R18). -/
def Track.rollStart (x : Track) : Track :=
  match x.decode with
  | .opening _ => x.close none
  | .closing _ => { x with decode := .openHole, runStart := none }
  | .closed | .openHole => x

/-- A strobe accepted in STILL: a roll start (R11). The line is counted before the re-announcements reload the keep counts
(R31, notes/assumptions/23.md). DESIGN CHOICE: the pedal event queues are emptied before line 0 could time a waiting event
of theirs (R6, R104, notes/assumptions/44.md). -/
def State.rollStart (s : State) : State :=
  let s := s.setScan
    { sweep := some { line := 0, time := s.now, taken := 0, repeats := 0 }, held := none, lastStrobe := some s.now,
      line := 0, ring := [{ line := 0, time := s.now }], roll := .moving, stallAt := some s.stallFrom,
      holdOverAt := none }
  let s := s.setTracks (Vector.ofFn fun i : Fin 24 => s.tracks[i].rollStart)
  let s := s.announceLine.shadeRollStart
  s.emptyPedalEvents.reannouncePedals 0

/-- A strobe at the scan port, in the modes that watch it (R1, R2). -/
def State.onStrobe (s : State) : State :=
  if s.mode.active then
    if s.insideWindow then s.count .rejectedStrobes
    else
      match s.scan.roll with
      | .still => s.rollStart
      | .moving => s.nextLine
  else s

/-! ### Stall and hold-over (R9, R10) -/

/-- A timer has reached its expiry. -/
def expired (now : Time) (timer : Option Time) : Bool :=
  match timer with
  | some x => reached now x
  | none => false

/-- The stall timer expires: the roll is STILL, the hold-over timer starts, and every WAITING note is armed (R9, R71). -/
def State.onStall (s : State) : State :=
  if s.scan.roll = .moving && expired s.now s.scan.stallAt then
    let s := s.setScan
      { s.scan with roll := .still, stallAt := none, holdOverAt := some (after s.now (1000 * s.store.tHold)) }
    s.armAll
  else s

/-- Every note track in OPEN or CLOSING(n) is marked orphaned (R10, R18). -/
def State.orphanHeldTracks (s : State) : State :=
  s.setTracks (Vector.ofFn fun i : Fin 24 =>
    match s.store.function i with
    | .note _ => if s.tracks[i].readsOpen then { s.tracks[i] with orphan := true } else s.tracks[i]
    | _ => s.tracks[i])

/-- The hold-over timer expires with the roll still STILL: tracks are orphaned, held notes are released and the pedals get
UP actions (R10, R72, R113). -/
def State.onHoldOverEnd (s : State) : State :=
  if s.scan.roll = .still && expired s.now s.scan.holdOverAt then
    let s := s.setScan { s.scan with holdOverAt := none }
    let s := s.orphanHeldTracks.releaseAll.emptyPedalEvents
    let drives := s.mode.drives
    ((s.actPedal .damper .up drives).actPedal .shift .up drives).settleMode
  else s

/-! ### Commands -/

/-- STROBE (R2). -/
def execStrobe (t : Time) (s : State) : Host.Outcome State Fault Refusal := .next (s.event t State.onStrobe)

/-- CAPTURE_SWEEP_COMPLETE (R3). -/
def execCaptureSweepComplete (t : Time) (cells : List Byte) (s : State) : Host.Outcome State Fault Refusal :=
  .next (s.noticedEvent t .drop fun s => s.onSweepComplete cells)

/-- STALL (R9). -/
def execStall (t : Time) (s : State) : Host.Outcome State Fault Refusal := .next (s.noticedEvent t .drop State.onStall)

/-- HOLD_OVER_END (R10). -/
def execHoldOverEnd (t : Time) (s : State) : Host.Outcome State Fault Refusal :=
  .next (s.noticedEvent t .mode State.onHoldOverEnd)

end Sys2Proof.Machine
end

