-- ==== Sys2Proof/Machine/Dispatch.lean ====
section
/-! DEFINITION. The dispatch of a command to its meaning, one arm for each row of the table. -/

namespace Sys2Proof.Machine

/-- The effect of a command on everything but the queue. -/
def exec (i : Instr) (s : State) : Host.Outcome State Fault Refusal :=
  match i with
  | .reset t straps => Sys2Proof.Machine.execReset t straps s
  | .storeRead t first second => Sys2Proof.Machine.execStoreRead t first second s
  | .strobe t => Sys2Proof.Machine.execStrobe t s
  | .captureSweepComplete t cells => Sys2Proof.Machine.execCaptureSweepComplete t cells s
  | .stall t => Sys2Proof.Machine.execStall t s
  | .holdOverEnd t => Sys2Proof.Machine.execHoldOverEnd t s
  | .keepCountExpiry t h => Sys2Proof.Machine.execKeepCountExpiry t h s
  | .armEvent t => Sys2Proof.Machine.execArmEvent t s
  | .fireEvent t => Sys2Proof.Machine.execFireEvent t s
  | .releaseEvent t => Sys2Proof.Machine.execReleaseEvent t s
  | .pulseEnd t k => Sys2Proof.Machine.execPulseEnd t k s
  | .returnEnd t k => Sys2Proof.Machine.execReturnEnd t k s
  | .tripCurrentCrossing t stage above => Sys2Proof.Machine.execTripCurrentCrossing t stage above s
  | .overcurrentDetection t k => Sys2Proof.Machine.execOvercurrentDetection t k s
  | .pedalOvercurrent t p => Sys2Proof.Machine.execPedalOvercurrent t p s
  | .openCurrentCrossing t k below => Sys2Proof.Machine.execOpenCurrentCrossing t k below s
  | .openLoadWarning t k => Sys2Proof.Machine.execOpenLoadWarning t k s
  | .pedalActionEvent t p => Sys2Proof.Machine.execPedalActionEvent t p s
  | .rampStep t p => Sys2Proof.Machine.execRampStep t p s
  | .loadRefresh t => Sys2Proof.Machine.execLoadRefresh t s
  | .peerAbsent t peer => Sys2Proof.Machine.execPeerAbsent t peer s
  | .sampleDue t => Sys2Proof.Machine.execSampleDue t s
  | .supplySample t value => Sys2Proof.Machine.execSupplySample t value s
  | .temperatureSample t value => Sys2Proof.Machine.execTemperatureSample t value s
  | .probeConversion t value => Sys2Proof.Machine.execProbeConversion t value s
  | .play t => Sys2Proof.Machine.execPlay t s
  | .stop t => Sys2Proof.Machine.execStop t s
  | .clear t => Sys2Proof.Machine.execClear t s
  | .trim t => Sys2Proof.Machine.execTrim t s
  | .restart t straps => Sys2Proof.Machine.execRestart t straps s
  | .halt t => Sys2Proof.Machine.execHalt t s
  | .probe t => Sys2Proof.Machine.execProbe t s
  | .shadeSegment t => Sys2Proof.Machine.execShadeSegment t s
  | .shadeKeep t => Sys2Proof.Machine.execShadeKeep t s
  | .pedalFrame t => Sys2Proof.Machine.execPedalFrame t s
  | .claimFrame t => Sys2Proof.Machine.execClaimFrame t s
  | .loadFrame t => Sys2Proof.Machine.execLoadFrame t s
  | .noticeFrame t => Sys2Proof.Machine.execNoticeFrame t s
  | .replyFrame t => Sys2Proof.Machine.execReplyFrame t s
  | .handlingEnd t => Sys2Proof.Machine.execHandlingEnd t s
  | .attemptStart t => Sys2Proof.Machine.execAttemptStart t s
  | .arbitrationLost t => Sys2Proof.Machine.execArbitrationLost t s
  | .attemptEnd t bits ending => Sys2Proof.Machine.execAttemptEnd t bits ending s
  | .frameDelivery t straps bits objection => Sys2Proof.Machine.execFrameDelivery t straps bits objection s
  | .brokenFrame t => Sys2Proof.Machine.execBrokenFrame t s
  | .lineIdle t => Sys2Proof.Machine.execLineIdle t s

end Sys2Proof.Machine
end

