-- ==== Sys2Proof/Safety.lean ====
section
/-! DEFINITION. What counts as a safe run of the block, and what a command leaves as it was, in the terms the statements
use. -/

namespace Sys2Proof.Machine

/-! ### What an event leaves as it was -/

/-- The parts of the state, the timebase apart: every event brings the timebase to its own time. -/
inductive Part where
  | number | mode | voicing | scan | tracks | shade | notes | keys | pedals | share | prot | conv | link | control
  | counters | pending
deriving DecidableEq, Repr

/-- A part is the same in two states. -/
def Part.same (s t : State) : Part → Prop
  | .number => t.number = s.number
  | .mode => t.mode = s.mode
  | .voicing => t.voicing = s.voicing
  | .scan => t.scan = s.scan
  | .tracks => t.tracks = s.tracks
  | .shade => t.shade = s.shade
  | .notes => t.notes = s.notes
  | .keys => t.keys = s.keys
  | .pedals => t.pedals = s.pedals
  | .share => t.share = s.share
  | .prot => t.prot = s.prot
  | .conv => t.conv = s.conv
  | .link => t.link = s.link
  | .control => t.control = s.control
  | .counters => t.counters = s.counters
  | .pending => t.pending = s.pending

/-- Every part but those listed is the same in `t` as in `s`. -/
def ChangesOnly (touched : List Part) (s t : State) : Prop := ∀ p : Part, p ∉ touched → p.same s t

/-- The outgoing slots but those listed are the same, and so is every other piece of the link controller. -/
def SlotsOnly (touched : List Slot) (s t : State) : Prop :=
  (∀ i : Slot, i ∉ touched → t.slot i = s.slot i) ∧ t.link = { s.link with slots := t.link.slots }

/-- The supply share unit is the same, but that the own standing load may have been announced by a LOAD. -/
def AnnouncesLoad (s t : State) : Prop :=
  t.share = { s.share with ownLoad := t.share.ownLoad, lastLoad := t.share.lastLoad, heldLoad := t.share.heldLoad }

/-- Every key but one stands as it was. -/
def KeysBut (k : Driver) (s t : State) : Prop := ∀ j : Driver, j ≠ k → t.key j = s.key j

/-- Every counter but those listed stands as it was. -/
def CountersBut (touched : List Counter) (s t : State) : Prop :=
  ∀ i : Counter, i ∉ touched → t.counters.get i = s.counters.get i

/-! ### Reading the store (R185) -/

/-- A value as a stored one is brought into its range: raised to the lower end, lowered to the upper end, or as stored
(R185). -/
def Clamped (low high stored value : Nat) : Prop :=
  (stored < low → value = low) ∧ (low ≤ stored → stored ≤ high → value = stored) ∧ (high < stored → value = high)

/-! ### What the pedal machine does at an action (R106, R107, R112) -/

/-- A pedal may be energized, the mode apart (R112). -/
def State.mayEnergize (s : State) (p : Pedal) : Prop :=
  (s.pedal p).state ≠ .faulted ∧ s.isShut .p = false ∧ s.holdOff = false

/-- A pedal stands at a target duty, or its ramp in flight goes to it (R107). -/
def PedalDrive.headsFor (x : PedalDrive) (target : Nat) : Prop :=
  (∃ r : Ramp, x.state = .moving r ∧ r.target = target) ∨
    ((x.state = .holding ∨ x.state = .resting) ∧ x.base = target)

/-- A pedal takes an action toward a position and a target duty, its queue then holding `events`. The position is commanded;
where the action is carried out and the pedal may be energized and does not head for the target already, a ramp to it starts
now, or is done at once when T_ramp is 0; otherwise the machine keeps its state (R106, R107, R109, R110). -/
def TakesAction (s t : State) (now : Time) (p : Pedal) (position : Position) (target : Nat) (events : List PedalEvent)
    (carried : Prop) : Prop :=
  (t.pedal p).events = events ∧ (t.pedal p).commanded = position ∧
  (¬ carried ∨ ¬ s.mayEnergize p ∨ (s.pedal p).headsFor target →
    t.pedal p = { s.pedal p with events, commanded := position }) ∧
  (carried → s.mayEnergize p → ¬ (s.pedal p).headsFor target →
    (0 < s.store.tRamp →
      (t.pedal p).state =
        .moving { d0 := (s.pedal p).base, target, start := now, steps := s.store.tRamp, taken := 0 } ∧
      (t.pedal p).base = (s.pedal p).base ∧
      (t.pedal p).applied = compensate s.store s.conv.vMeas (s.pedal p).base ∧
      (t.pedal p).load = ceilDiv (s.store.iFullPedal * max (s.pedal p).base target) 255) ∧
    (s.store.tRamp = 0 →
      (t.pedal p).state = (if target = 0 then .resting else .holding) ∧ (t.pedal p).base = target ∧
      (t.pedal p).applied = compensate s.store s.conv.vMeas target ∧
      (t.pedal p).load = ceilDiv (s.store.iFullPedal * target) 255))

/-! ### Drive gating (R79, R112) -/

/-- A pedal's stage may be energized: its machine is MOVING or HOLDING. -/
def PedalState.energized : PedalState → Bool
  | .moving _ | .holding => true
  | .resting | .faulted => false

/-- No stage is energized outside PLAY and WINDDOWN, in thermal shutdown of its cluster, or in supply hold-off; a FAULTED
key or pedal is not energized by what its state is (R79, R112). -/
def State.gated (s : State) : Prop :=
  (∀ k : Driver, (s.key k).stroke.driven = true →
    s.mode.drives = true ∧ s.isShut (clusterOf k) = false ∧ s.holdOff = false) ∧
  (∀ p : Pedal, (s.pedal p).state.energized = true →
    s.mode.drives = true ∧ s.isShut .p = false ∧ s.holdOff = false)

/-- Records exist in PLAY and WINDDOWN alone, those of WINDDOWN are SOUNDING, and the key of a SOUNDING record is in STRIKE
or HOLD (R70, R76, R77). -/
def State.listed (s : State) : Prop :=
  (s.notes ≠ [] → s.mode.drives = true) ∧
  (s.mode = .winddown → ∀ n ∈ s.notes, n.state = .sounding) ∧
  (∀ n ∈ s.notes, n.state = .sounding → (s.key n.driver).stroke.driven = true)

/-- What makes a run safe for the coils. -/
def State.Safe (s : State) : Prop := s.gated ∧ s.listed

/-! ### Standing load (R115) -/

/-- The sum of the keys' hold currents. -/
def State.keyCurrents (s : State) : Nat := ((List.finRange 12).map fun k => (s.key k).holdCurrent).sum

/-- The own standing load is the sum of the hold currents of the keys and the loads of the pedals (R115). -/
def State.loadBalanced (s : State) : Prop :=
  s.share.ownLoad = s.keyCurrents + s.pedals.damper.load + s.pedals.shift.load

/-! ### Between events -/

/-- No record has a due time left to be reached within the event that set it: so it is between events (R59). -/
def State.settled (s : State) : Prop := ∀ n ∈ s.notes, n.atOnce = false

/-- The slot of an own attempt on the line is SENDING (R158, R166). -/
def State.holdsLine (s : State) : Prop :=
  ∀ a : Attempt, s.link.onLine = some a → (s.slot a.slot).state = .sending

/-- A strobe at a time is outside the strobe window of the last accepted one (R2). -/
def State.windowOpen (s : State) (now : Time) : Prop :=
  ∀ last : Time, s.scan.lastStrobe = some last → (s.store.tLmin : Int) ≤ timeDiff now last

/-- The NOTICE that tells a condition byte stands in its slot, or is held until the slot's attempt ends (R180). -/
def State.noticeStands (s : State) (condition : Byte) : Prop :=
  ∃ cause : Byte,
    ((s.slot .notice).state = .queued ∧ (s.slot .notice).frame = some (.notice condition cause)) ∨
    ((s.slot .notice).state = .sending ∧ s.control.heldNotice = some { condition, cause })

/-! ### Headroom (R123) -/

/-- A claim record counts over a window: it has not expired, and each of the two begins before the other ends (R122, R123). -/
def ClaimRecord.counts (now start stop : Time) (r : ClaimRecord) : Bool :=
  !reached now r.stop && earlier r.start stop && earlier start r.stop

/-- The demand over a window, added up term by term as the table of R123 has it, the slot being fitted left out. -/
def State.demandOver (s : State) (start stop : Time) (fitting : Option ClaimId) : Nat :=
  ((s.share.peers.toList.filter Peer.present).map Peer.load).sum + s.share.ownLoad +
  (((s.share.peers.toList.flatMap Peer.claims ++ s.share.ownClaims).filter (ClaimRecord.counts s.now start stop)).map
    ClaimRecord.amount).sum +
  ((([.a, .b] : List ClaimId).filter fun c =>
      decide (fitting ≠ some c) && ((s.slot (.claim c)).state = .queued || (s.slot (.claim c)).state = .sending)).map
    fun c => (((s.claimSlot c).claim.filter fun x => earlier x.windowStart stop && earlier start x.windowEnd).map
      Claim.amount).getD 0).sum +
  ((s.share.departed.filter fun d =>
      !reached s.now d.windowEnd && earlier d.windowStart stop && earlier start d.windowEnd).map
    Departed.amount).getD 0

/-! ### The choice of the next frame (R166, R167) -/

/-- The class of a slot (R166). -/
def Slot.linkClass : Slot → Nat
  | .shade _ => 1
  | .pedal => 2
  | .claim _ => 3
  | .load => 4
  | .notice => 6
  | .reply => 7

/-- An unhandled CLAIM or LOAD frame is in the intake queue or in handling (R132). -/
def State.holdsClaims (s : State) : Prop :=
  ∃ e : Entry, (e ∈ s.link.intake ∨ s.link.handling.map Handling.entry = some e) ∧
    ((∃ value, e.payload = .load value) ∨
      ∃ tag overdrawn late amount offset duration, e.payload = .claim tag overdrawn late amount offset duration)

/-- A slot is ready, QUEUED or awaiting a retry, and held back neither by the mode nor, a claim slot, by an unhandled CLAIM or
LOAD frame (R167, R170). -/
def State.offers (s : State) (i : Slot) : Prop :=
  ((s.slot i).state = .queued ∨ (s.slot i).state = .sending) ∧
  (s.mode = .unvoiced → i = .reply) ∧ s.mode ≠ .loading ∧ (∀ c : ClaimId, i = .claim c → ¬ s.holdsClaims)

/-- A ready slot is taken before another: the lower class first, and in a class the earlier queued time, SHADE-BASS and
CLAIM-A at equal times (R167). -/
def State.takenBefore (s : State) (i j : Slot) : Prop :=
  i.linkClass < j.linkClass ∨
  (i.linkClass = j.linkClass ∧
    (if i = .shade .bass ∨ i = .claim .a then earlier (s.slot j).queuedAt (s.slot i).queuedAt = false
     else earlier (s.slot i).queuedAt (s.slot j).queuedAt = true))

/-! ### What a unit makes, and how it is queued -/

/-- An outgoing shade queue after a frame has joined it: a SEGMENT overwrites one of the same start line, or takes out a KEEP
and joins; a KEEP overwrites a KEEP, or joins. A queue of four first drops its oldest entry, which the flag tells (R30). -/
def shadeQueueAfter (f : ShadeFrame) (q : List ShadeFrame) : List ShadeFrame × Bool :=
  let join := fun (q : List ShadeFrame) => if q.length < 4 then (q ++ [f], false) else (q.tail ++ [f], true)
  let overwrite := fun (same : ShadeFrame → Bool) (q : List ShadeFrame) => (q.map fun e => if same e then f else e, false)
  let isKeep := fun (e : ShadeFrame) => match e with | .keep _ => true | .segment _ => false
  match f with
  | .segment g =>
    let same := fun (e : ShadeFrame) => match e with | .segment x => decide (x.start = g.start) | .keep _ => false
    if q.any same then overwrite same q else join (q.filter fun e => !isKeep e)
  | .keep _ => if q.any isKeep then overwrite isKeep q else join q

/-- The outgoing pedal queue after frames have joined it in turn, with the number of frames dropped: a frame overwrites one of
the same pedal and line, or joins, a queue of four first dropping its oldest (R101). -/
def pedalQueueAfter : List PedalMove → List PedalMove → List PedalMove × Nat
  | q, [] => (q, 0)
  | q, m :: rest =>
    let same := fun (x : PedalMove) => decide (x.pedal = m.pedal ∧ x.line = m.line)
    if q.any same then pedalQueueAfter (q.map fun x => if same x then m else x) rest
    else if q.length < 4 then pedalQueueAfter (q ++ [m]) rest
    else ((pedalQueueAfter (q.tail ++ [m]) rest).1, (pedalQueueAfter (q.tail ++ [m]) rest).2 + 1)

/-- A generator of a half makes a segment: it becomes the generator segment, enters the own timeline unless it starts before
the last segment there, and is queued as a SEGMENT frame, which takes the half's slot when that is free (R26, R30, R32, R33). -/
def MakesSegment (s t : State) (h : Half) (g : Segment) : Prop :=
  (t.half h).generator = some g ∧ (t.half h).keepCount = 0 ∧
  ((∀ last : Segment, (s.half h).timeline.getLast? = some last → 0 ≤ lineDiff g.start last.start) →
    (t.half h).timeline.getLast? = some g) ∧
  ((s.slot (.shade h)).state.free = true → (s.half h).queue = [] →
    (t.half h).queue = [] ∧
    t.slot (.shade h) =
      { state := .queued, queuedAt := t.now, attempts := 0, cancel := none
        frame := some (.segment h g.accent (fieldOf 12 g.s0) (fieldOf 8 g.rate) (fieldOf 8 (g.target / 16)) g.start) }) ∧
  ((s.slot (.shade h)).state.free = false →
    (t.half h).queue = (shadeQueueAfter (.segment g) (s.half h).queue).1 ∧ t.slot (.shade h) = s.slot (.shade h))

/-- The pedal source makes PEDAL frames in order: the first goes to a free PEDAL slot with an empty queue, and the others
join the queue (R100 to R102). -/
def MakesMoves (s t : State) (moves : List PedalMove) : Prop :=
  ((s.slot .pedal).state.free = true → s.pedals.queue = [] →
    t.pedals.queue = (pedalQueueAfter [] moves.tail).1 ∧
    (∀ m : PedalMove, moves.head? = some m →
      t.slot .pedal =
        { state := .queued, queuedAt := t.now, attempts := 0, cancel := none
          frame := some (.pedal m.pedal m.position.code m.line) }) ∧
    (moves = [] → t.slot .pedal = s.slot .pedal)) ∧
  ((s.slot .pedal).state.free = false →
    t.pedals.queue = (pedalQueueAfter s.pedals.queue moves).1 ∧ t.slot .pedal = s.slot .pedal ∧
    (s.isPedalDrive = false →
      ((pedalQueueAfter s.pedals.queue moves).2 = 0 →
        t.counters.get .pedalEventsShed = s.counters.get .pedalEventsShed) ∧
      (0 < (pedalQueueAfter s.pedals.queue moves).2 →
        t.counters.get .pedalEventsShed =
          min (s.counters.get .pedalEventsShed + (pedalQueueAfter s.pedals.queue moves).2) 65535)))

/-- A ready probe is answered by the state of the REPLY slot: a free one takes the reply, with the condition byte as it stands
and a value, a QUEUED one has its reply overwritten, and the reply carries the report marks; while the slot is SENDING the
probe is held, replacing any held probe (R179, R181). -/
def AnswersProbe (s t : State) (id : ProbeId) (sensed : Option Int) (value : Int) : Prop :=
  ((s.slot .reply).state.free = true →
    t.slot .reply =
      { state := .queued, queuedAt := t.now, attempts := 0, cancel := none
        frame := some (.reply id.requester id.item s.conditionByte (BitVec.ofInt 24 value)) }) ∧
  ((s.slot .reply).state = .queued →
    t.slot .reply =
      { s.slot .reply with
        frame := some (.reply id.requester id.item s.conditionByte (BitVec.ofInt 24 value)) }) ∧
  ((s.slot .reply).state ≠ .sending →
    t.control = { s.control with carriedLoss := s.control.lossMark, carriedDrop := s.control.dropMark }) ∧
  ((s.slot .reply).state = .sending →
    t.slot .reply = s.slot .reply ∧ t.control = { s.control with heldProbe := some { probe := id, sensed } }) ∧
  (∀ i : Slot, i ≠ .reply → t.slot i = s.slot i)

/-- A conversion begins now: it ends after 10 µs on the source converted last, and after 60 µs on another (R142). -/
def BeginsConversion (s t : State) (now : Time) (source : Source) (probe : Option ProbeId) : Prop :=
  t.conv.inFlight = some { source, probe, ends := after now (if s.conv.lastSource = some source then 10 else 60) } ∧
  t.conv.lastSource = some source

/-- At the arm event of the WAITING record next due, whose key can be struck, the shade unit answers `a` and the stages give
the strike `x`, marked late or not (R63, R42 to R51). -/
def State.ArmsAs (s : State) (now : Time) (n : Note) (a : ShadeAnswer) (x : Strike) (late : Bool) : Prop :=
  s.settled ∧ (s.setNow now).nextDue = some n ∧ n.state = .waiting ∧ (∀ m ∈ s.notes, m.same n = true → m = n) ∧
  (s.key n.driver).stroke ≠ .faulted ∧ s.isShut (clusterOf n.driver) = false ∧
  (s.prune (s.store.halfOf n.driver)).evaluateShade (s.store.halfOf n.driver) n.onsetLine = a ∧
  computeStrike s.store (s.store.key n.driver) now n.onsetTime (s.capFor n.driver)
    (level a.value (if a.accent then (s.store.half (s.store.halfOf n.driver)).accent else 0) s.shade.trim) = (x, late)

/-- A sender reads its own frame as it sent it: each bit of length, payload and check, which follow the first eight bits of the
frame, is the bit that it sent, the bits not given being recessive, and the objection slot and delimiter are recessive (R156,
R162). -/
def State.ReadsAsSent (s : State) (a : Attempt) (bits : List Bool) (ending : ObjectionBits) : Prop :=
  (∀ (i : Nat) (b : Bool), (encodeFrame s.number a.frame)[8 + i]? = some b → bits.getD i true = b) ∧
  ending.slot = true ∧ ending.delimiter = true

/-- An own attempt ends, SENT or else FAILED at its fourth objection, with a place in the intake queue for the echo and an
objection count that neither reaches nor leaves mute (R163, R164, R168). -/
def State.EndsAttempt (s : State) (a : Attempt) (sent : Bool) : Prop :=
  s.link.onLine = some a ∧ s.mode ≠ .winddown ∧ (s.slot a.slot).cancel = none ∧
  (sent = true → s.link.handling.isSome = true ∧ s.link.intake.length < 24) ∧
  (sent = false → 3 ≤ (s.slot a.slot).attempts ∧ s.link.objectionCount < 31)

/-- The decode state of a track after a captured line and its repeats, all with the value of the captured line (R3, R13,
R14). -/
def decodedThrough (v : Voicing) (value : Nat) (line : Line) : Nat → Track → Track
  | 0, x => (x.move v line value).1
  | n + 1, x => decodedThrough v value (line + 1) n (x.move v line value).1

/-- One track alone confirms an edge on a line (R17). -/
def State.ConfirmsOnly (s : State) (line : Line) (cells : List Byte) (i : Fin 24) (e : Edge) : Prop :=
  (s.moveTrack line cells i).2 = some e ∧ ∀ j : Fin 24, j ≠ i → (s.moveTrack line cells j).2 = none

/-! ### After reset and RESTART -/

/-- Every unit holds the values that its chapter gives for reset and RESTART (R21, R40, R78, R98, R114, R140, R142, R143,
R155, R171, R179, R183). -/
def State.HasResetValues (s : State) : Prop :=
  s.mode = .loading ∧ s.voicing = none ∧
  s.scan =
    { sweep := none, held := none, lastStrobe := none, line := 0, ring := [], roll := .still, stallAt := none,
      holdOverAt := none } ∧
  (∀ i : Fin 24, s.tracks[i] = { decode := .closed, runStart := none, orphan := false }) ∧
  (∀ h : Half, s.half h = { generator := none, keepCount := 0, queue := [], timeline := [], through := none }) ∧
  s.shade.generatorLine = 0 ∧ s.shade.trim = 0 ∧
  s.notes = [] ∧
  (∀ k : Driver, (s.key k).stroke = .rest ∧ (s.key k).holdCurrent = 0 ∧ (s.key k).overRun = none ∧
    (s.key k).openRun = none ∧ (s.key k).openWarning = false) ∧
  s.pedals.lastDamper = .up ∧ s.pedals.lastShift = .up ∧ s.pedals.queue = [] ∧
  (∀ p : Pedal, s.pedal p =
    { events := [], commanded := .up, state := .resting, base := 0, applied := 0, load := 0, overRun := none }) ∧
  s.share.ownLoad = 0 ∧ s.share.lastLoad = none ∧ s.share.heldLoad = none ∧ s.share.ownClaims = [] ∧
  s.share.departed = none ∧
  (∀ n : StationNo, (s.peer n).present = false ∧ (s.peer n).load = 0 ∧ (s.peer n).claims = []) ∧
  (∀ c : ClaimId, s.claimSlot c = { counter := 0, claim := none }) ∧
  s.prot.uv = { present := false, run := false } ∧ s.prot.ovw = { present := false, run := false } ∧
  s.prot.ovs = { present := false, run := false } ∧
  s.prot.uvWarning = false ∧ s.prot.ovsWarning = false ∧ s.prot.uvFault = false ∧ s.prot.ovsFault = false ∧
  s.prot.halt = false ∧
  (∀ cl : Cluster, s.prot.clusters.get cl = { level := .normal, previous := none }) ∧
  s.conv.vMeas = 0 ∧ (∀ cl : Cluster, s.conv.temps.get cl = 25) ∧ s.conv.schedule = none ∧ s.conv.inFlight = none ∧
  s.conv.lastSource = none ∧ s.conv.waiting = [] ∧ s.conv.waitingProbe = none ∧
  s.link.onLine = none ∧
  (∀ i : Slot, (s.slot i).state = .empty ∧ (s.slot i).frame = none ∧ (s.slot i).attempts = 0 ∧
    (s.slot i).cancel = none) ∧
  s.link.intake = [] ∧ s.link.handling = none ∧
  s.link.objectionCount = 0 ∧ s.link.muted = false ∧ s.link.cleanCount = 0 ∧ s.link.line = .unread ∧
  s.control.lossMark = false ∧ s.control.dropMark = false ∧ s.control.heldNotice = none ∧ s.control.heldProbe = none ∧
  (∀ i : Counter, s.counters.get i = 0)

/-! ### Capacities -/

/-- Every counter is within its 16 bits (R183). -/
def State.countersBounded (s : State) : Prop := ∀ i : Counter, s.counters.get i ≤ Config.counterMax

/-- The queues of a half's shade are within their capacities (R30, R33). -/
def HalfShade.bounded (x : HalfShade) : Prop :=
  x.queue.length ≤ Config.shadeQueue ∧ x.timeline.length ≤ Config.timelineSegments

/-- The ring, the note list, the shade and pedal queues, the claim records, the intake queue and the objection count are
within their capacities (R7, R30, R33, R58, R101, R104, R118, R164, R168). -/
def State.bounded (s : State) : Prop :=
  s.scan.ring.length ≤ Config.ringLines ∧
  s.notes.length ≤ Config.noteCapacity ∧
  (∀ h : Half, (s.half h).bounded) ∧
  s.pedals.queue.length ≤ Config.pedalQueue ∧
  (∀ p : Pedal, (s.pedal p).events.length ≤ Config.pedalEvents) ∧
  s.share.ownClaims.length ≤ Config.claimRecords ∧
  (∀ n : StationNo, (s.peer n).claims.length ≤ Config.claimRecords) ∧
  s.link.intake.length ≤ Config.intakeAll ∧
  s.link.objectionCount ≤ Config.muteCount

end Sys2Proof.Machine
end

