-- ==== Sys2Proof/Certificates/Slice0/Obligations.lean ====
section
/-! DEFINITION. The statements for the provers, family by family of the commands and then over the whole machine. Each
per-command statement says when the command completes, what its next state holds, and what it leaves as it was
(`ChangesOnly` names the parts that may differ; `now` stands for the event's own time). -/

open Sys2Proof Sys2Proof.Machine

/-! ### Steps, reset and start -/

/-- The command at the front of the queue acts, by its own effect, on the state with the queue's rest. -/
def Obligations.StepTakesTheFrontCommand : Prop :=
  ∀ (c : Instr) (rest : List Instr) (s : State),
    s.pending = c :: rest → step s = exec c { s with pending := rest }

/-- The reset pin puts every unit at its reset values, with the station number read from the straps; the timebase runs on
and the commands that wait stay, which is the model's choice (log 2). -/
def Obligations.ResetPutsEveryUnitAtItsResetValues : Prop :=
  ∀ (s : State) (now : Time) (straps : StationNo),
    ∃ t, exec (.reset now straps) s = .next t ∧ t.HasResetValues ∧ t.number = straps ∧ t.now = now ∧
      t.pending = s.pending

/-- A RESTART that addresses the station does what the reset pin does: taken from the intake queue in STANDBY, PLAY, WINDDOWN
and SILENCED, and at its delivery in UNVOICED. One delivered in LOADING is not acted on. -/
def Obligations.RestartHasTheEffectOfReset : Prop :=
  ∀ (s : State) (now : Time) (straps sender : StationNo) (target argument : Byte), s.addressed target = true →
    (∀ e : Entry, s.toHandle = some e → e.payload = .transport 5 target argument → s.mode.active = true →
      ∃ t, exec (.restart now straps) s = .next t ∧ exec (.reset now straps) s = .next t ∧ t.HasResetValues ∧
        t.number = straps) ∧
    (s.link.line ≠ .unread → s.link.onLine = none →
      (s.mode = .unvoiced →
        ∃ t, exec (.frameDelivery now straps (encodeFrame sender (.transport 5 target argument)) false) s = .next t ∧
          exec (.reset now straps) s = .next t ∧ t.HasResetValues ∧ t.number = straps) ∧
      (s.mode = .loading →
        ∃ t, exec (.frameDelivery now straps (encodeFrame sender (.transport 5 target argument)) false) s = .next t ∧
          t.now = now ∧ t.link.intake = s.link.intake ∧ t.link.handling = s.link.handling ∧ ChangesOnly [.link] s t))

/-- A store read whole on the first or the second attempt, with the right format code, takes LOADING to STANDBY: the voicing
is in force, the schedule begins at frame 0 with V_meas at V_nom, and a LOAD is queued. A store absent or of another format
takes it to UNVOICED. -/
def Obligations.StoreReadLeavesLoading : Prop :=
  ∀ (s : State) (now : Time) (first second image : List Byte), s.mode = .loading →
    ((399 ≤ first.length ∧ image = first) ∨ (first.length < 399 ∧ 399 ≤ second.length ∧ image = second) →
      imageByte image 0 = 0x3C → imageByte image 1 = 0x05 →
      (s.slot .load).state = .empty →
      ∃ t, exec (.storeRead now first second) s = .next t ∧ t.now = now ∧ t.mode = .standby ∧
        t.voicing = some (readVoicing image) ∧ t.conv.vMeas = (readVoicing image).vNom ∧
        t.conv.schedule = some { due := now, phase := 0 } ∧
        (t.slot .load).state = .queued ∧ (t.slot .load).frame = some (.load (fieldOf 12 s.share.ownLoad)) ∧
        t.share.lastLoad = some { value := s.share.ownLoad, time := now } ∧
        ChangesOnly [.mode, .voicing, .conv, .share, .link, .control] s t) ∧
    ((first.length < 399 ∧ second.length < 399) ∨
      ((399 ≤ first.length ∧ image = first) ∨ (first.length < 399 ∧ 399 ≤ second.length ∧ image = second)) ∧
        (imageByte image 0 ≠ 0x3C ∨ imageByte image 1 ≠ 0x05) →
      ∃ t, exec (.storeRead now first second) s = .next t ∧ t.now = now ∧ t.mode = .unvoiced ∧
        ChangesOnly [.mode] s t)

/-- Whatever the store holds, every parameter is in force as its field stores it, brought into its range, and then moved only
as far as a cross-field order asks; the codes, role fields and option bits read as their tables say. A track entry keeps its
function when its code, cell a and argument name one and no earlier entry names its driver, and is UNUSED otherwise; a cell b
of N or more is absent. The floor duties and the replay delay are derived. -/
def Obligations.StoreParametersAreChecked : Prop :=
  ∀ (image : List Byte) (v : Voicing), v = readVoicing image →
    (Clamped 0 88 (imageByte image 0x02) v.splitKey ∧ Clamped 1 48 (imageByte image 0x07) v.cells ∧
      Clamped 1 8 (imageByte image 0x0A) v.kOpen ∧ Clamped 1 8 (imageByte image 0x0B) v.kClose ∧
      Clamped 100 5000 (imageWord image 0x0C) v.tLmin ∧ Clamped 20 2000 (imageWord image 0x0E) v.tLmax ∧
      Clamped 0 5000 (imageWord image 0x10) v.tHold ∧ Clamped 2 20 (imageByte image 0x13) v.margin ∧
      Clamped 1 4095 (imageWord image 0x3E) v.supplyLimit ∧ Clamped 0 100 (imageByte image 0x51) v.pedalLead ∧
      Clamped 0 200 (imageByte image 0x52) v.tRamp ∧ Clamped 1 255 (imageByte image 0x56) v.iFullPedal) ∧
    (v.reserve = imageByte image 0x40 ∧ v.pOvcap = imageByte image 0x4A ∧ v.pHotcap = imageByte image 0x4B ∧
      v.pHalf = imageByte image 0x53 ∧ v.pDown = imageByte image 0x54 ∧ v.pShift = imageByte image 0x55) ∧
    (∀ (role : Option StationNo) (stored : Nat),
      (role, stored) ∈
        [(v.bassAuthority, imageByte image 0x03), (v.trebleAuthority, imageByte image 0x04),
          (v.pedalSource, imageByte image 0x05), (v.pedalDrive, imageByte image 0x06)] →
      (∀ n : StationNo, role = some n ↔ n.toNat = stored) ∧ (16 ≤ stored → role = none)) ∧
    ((v.uvLatched = (imageByte image 0x49).testBit 0) ∧ (v.ovsLatched = (imageByte image 0x49).testBit 1) ∧
      (v.thermalGlobal = (imageByte image 0x49).testBit 2) ∧
      v.deglitch = [5, 10, 20, 40].getD (min (imageByte image 0x4C) 3) 40) ∧
    (Clamped 0 254 (imageByte image 0x09) v.tClose ∧
      ∀ x : Nat, Clamped 1 255 (imageByte image 0x08) x → v.tOpen = max x (v.tClose + 1)) ∧
    (v.knots.length = 9 ∧ v.knots.Pairwise (· ≤ ·) ∧ (∀ x ∈ v.knots, x ≤ 1023) ∧
      v.knots.getD 0 0 = min (imageWord image 0x14) 1023 ∧
      ∀ i : Nat, i < 8 →
        v.knots.getD (i + 1) 0 = max (v.knots.getD i 0) (min (imageWord image (0x16 + 2 * i)) 1023)) ∧
    (Clamped 100 1000 (imageWord image 0x41) v.vNom ∧
      (∀ x : Nat, Clamped 1 1022 (imageWord image 0x43) x → v.vUv = min x (v.vNom - 1)) ∧
      (∀ x : Nat, Clamped 101 1022 (imageWord image 0x45) x → v.vOvw = max x (v.vNom + 1)) ∧
      (∀ x : Nat, Clamped 102 1023 (imageWord image 0x47) x → v.vOvs = max x (v.vOvw + 1)) ∧ 1 ≤ v.vUv ∧
      v.vUv < v.vNom ∧ v.vNom < v.vOvw ∧ v.vOvw < v.vOvs ∧ v.vOvs ≤ 1023) ∧
    (Clamped 1 1022 (imageWord image 0x4F) v.iOpen ∧
      (∀ x : Nat, Clamped 2 1023 (imageWord image 0x4D) x → v.iTrip = max x (v.iOpen + 1)) ∧ v.iTrip ≤ 1023) ∧
    (∀ (x : HalfVoicing) (base : Nat), (x, base) ∈ [(v.bass, 0x26), (v.treble, 0x32)] →
      x.targets.length = 8 ∧ (∀ i : Nat, i < 8 → x.targets.getD i 0 = imageByte image (base + i)) ∧
      Clamped 1 255 (imageByte image (base + 8)) x.slow ∧ Clamped 1 255 (imageByte image (base + 9)) x.fast ∧
      x.default = imageByte image (base + 10) ∧ Clamped 0 127 (imageByte image (base + 11)) x.accent) ∧
    (∀ (k : Driver) (r : KeyRecord) (base : Nat), r = v.key k → base = 0x9F + 20 * k.val →
      Clamped 0 87 (imageByte image base) r.number ∧ Clamped 0 1023 (imageWord image (base + 0x01)) r.eMin ∧
      Clamped 64 191 (imageByte image (base + 0x03)) r.gain ∧ Clamped 1 254 (imageByte image (base + 0x04)) r.pMin ∧
      (∀ x : Nat, Clamped 2 255 (imageByte image (base + 0x05)) x → r.pMax = max x (r.pMin + 1)) ∧
      Clamped 1 255 (imageByte image (base + 0x06)) r.iFull ∧
      Clamped 20 400 (imageWord image (base + 0x07)) r.tPulse ∧
      Clamped 10 1000 (imageWord image (base + 0x09)) r.fSlow ∧
      (∀ x : Nat, Clamped 10 1000 (imageWord image (base + 0x0B)) x → r.fFast = min x r.fSlow) ∧
      r.pHold = imageByte image (base + 0x0D) ∧ r.pCool = imageByte image (base + 0x0E) ∧
      Clamped 0 50 (imageByte image (base + 0x0F)) r.relLead ∧
      Clamped 5 100 (imageByte image (base + 0x10)) r.tReturn ∧
      (∀ x : Nat, Clamped 1 100 (imageByte image (base + 0x11)) x → r.tRep = min x r.tReturn) ∧
      r.enabled = (imageByte image (base + 0x12)).testBit 0 ∧
      r.pFloor = r.pMin + ((r.pMax - r.pMin) * r.eMin + 511) / 1023) ∧
    (∀ (i : Fin 24) (a b code argument : Nat) (h : Half),
      a = imageByte image (0x57 + 3 * i.val) → b = imageByte image (0x58 + 3 * i.val) →
      code = imageByte image (0x59 + 3 * i.val) / 16 → argument = imageByte image (0x59 + 3 * i.val) % 16 →
      h = (if argument.testBit 0 = true then .treble else .bass) →
      (v.cells ≤ a ∨ code = 0 ∨ 11 ≤ code ∨ (code = 1 ∧ 12 ≤ argument) → v.tracks[i].function = .unused) ∧
      (a < v.cells → v.tracks[i].cellA = a ∧
        (∀ f : TrackFunction,
          (code, f) ∈
            ([(2, .level1 h), (3, .level2 h), (4, .level4 h), (5, .swell h), (6, .accent h), (7, .hush h), (8, .sustain),
              (9, .halfdamp), (10, .soft)] : List (Nat × TrackFunction)) →
          v.tracks[i].function = f) ∧
        (∀ k : Driver, code = 1 → argument = k.val →
          ((∀ j : Fin 24, j < i → v.tracks[j].function ≠ .note k) → v.tracks[i].function = .note k) ∧
          ((∃ j : Fin 24, j < i ∧ v.tracks[j].function = .note k) → v.tracks[i].function = .unused))) ∧
      (b < v.cells → v.tracks[i].cellB = some b) ∧ (v.cells ≤ b → v.tracks[i].cellB = none) ∧
      v.tracks[i].cellA < v.cells) ∧
    (∀ (i j : Fin 24) (k : Driver), v.tracks[i].function = .note k → v.tracks[j].function = .note k → i = j) ∧
    (∀ least : Nat, Clamped 20 250 (imageByte image 0x12) least →
      (∀ k : Driver, (v.key k).enabled = true → 100 * (v.key k).fSlow + 1000 * v.margin ≤ v.delay) ∧
      1000 * least ≤ v.delay ∧
      (v.delay = 1000 * least ∨
        ∃ k : Driver, (v.key k).enabled = true ∧ v.delay = 100 * (v.key k).fSlow + 1000 * v.margin))

/-! ### Reading the roll -/

/-- In LOADING and UNVOICED the strobe input is not watched. Elsewhere a strobe less than T_lmin after the last accepted one
is rejected and counted, which moves no window; any other strobe is accepted, and its time becomes the last accepted one's.
T_lmin is 100..5000 µs. -/
def Obligations.StrobesAreTakenByTheWindow : Prop :=
  ∀ (s : State) (now : Time),
    (s.mode.active = false → exec (.strobe now) s = .next (s.setNow now)) ∧
    (∀ last : Time, s.mode.active = true → s.scan.lastStrobe = some last → timeDiff now last < s.store.tLmin →
      ∃ t, exec (.strobe now) s = .next t ∧ t.now = now ∧
        t.counters.get .rejectedStrobes = min (s.counters.get .rejectedStrobes + 1) 65535 ∧
        CountersBut [.rejectedStrobes] s t ∧ ChangesOnly [.counters] s t) ∧
    (s.mode.active = true → s.windowOpen now →
      ∃ t, exec (.strobe now) s = .next t ∧ t.now = now ∧ t.scan.lastStrobe = some now ∧
        t.counters.get .rejectedStrobes = s.counters.get .rejectedStrobes) ∧
    (∀ image : List Byte, 100 ≤ (readVoicing image).tLmin ∧ (readVoicing image).tLmin ≤ 5000)

/-- A strobe accepted in MOVING takes the next line number, is entered in the ring, restarts the stall timer, and starts its
sweep, becomes the held strobe, or is merged behind it. The pedal events that wait for the line take the action time now + D −
pedalLead, and one that stands first with that time at or before now acts at once; a pedal without such an event stays. -/
def Obligations.AcceptedStrobeNumbersTheNextLine : Prop :=
  ∀ (s : State) (now : Time), s.mode.active = true → s.windowOpen now → s.scan.roll = .moving →
    ∃ t, exec (.strobe now) s = .next t ∧ t.now = now ∧
      t.scan.line = s.scan.line + 1 ∧ t.scan.lastStrobe = some now ∧ t.scan.roll = .moving ∧
      t.scan.stallAt = some (after now (1000 * s.store.tLmax)) ∧ t.scan.holdOverAt = s.scan.holdOverAt ∧
      t.scan.ring =
        (if s.scan.ring.length < 64 then s.scan.ring else s.scan.ring.tail) ++ [{ line := s.scan.line + 1, time := now }] ∧
      (s.scan.sweep = none →
        t.scan.sweep = some { line := s.scan.line + 1, time := now, taken := 0, repeats := 0 } ∧
        t.scan.held = s.scan.held ∧ t.counters = s.counters) ∧
      (∀ x, s.scan.sweep = some x → s.scan.held = none →
        t.scan.sweep = some x ∧ t.scan.held = some { line := s.scan.line + 1, time := now, repeats := 0 } ∧
        t.counters = s.counters) ∧
      (∀ x y, s.scan.sweep = some x → s.scan.held = some y →
        t.scan.sweep = some x ∧ t.scan.held = some { y with repeats := y.repeats + 1 } ∧
        t.counters.get .mergedLines = min (s.counters.get .mergedLines + 1) 65535 ∧
        CountersBut [.mergedLines] s t) ∧
      (∀ p : Pedal, (∀ y ∈ (s.pedal p).events, y.line = s.scan.line + 1 → y.action ≠ none) → t.pedal p = s.pedal p) ∧
      (∀ (p : Pedal) (action : Time) (timed : PedalEvent → PedalEvent),
        action = shifted now (s.store.delay - 1000 * s.store.pedalLead) →
        (∀ y : PedalEvent,
          timed y = if y.line = s.scan.line + 1 ∧ y.action = none then { y with action := some action } else y) →
        (reached now action = false → (∀ y ∈ (s.pedal p).events, y.line = s.scan.line + 1 → y.action = none) →
          t.pedal p = { s.pedal p with events := (s.pedal p).events.map timed }) ∧
        (∀ (x : PedalEvent) (rest : List PedalEvent) (target : Nat), (s.pedal p).events = x :: rest →
          (x.line ≠ s.scan.line + 1 → t.pedal p = { s.pedal p with events := (s.pedal p).events.map timed }) ∧
          (x.line = s.scan.line + 1 → x.action = none → reached now action = true →
            target = (match p, x.position with
              | _, .up => 0
              | .damper, .half => s.store.pHalf
              | .damper, .down => s.store.pDown
              | .shift, _ => s.store.pShift) →
            TakesAction s t now p x.position target (rest.map timed) (s.mode = .play)))) ∧
      (∀ h : Half, t.half h = { s.half h with keepCount := (s.half h).keepCount + (s.generates h).toNat }) ∧
      ChangesOnly [.scan, .shade, .pedals, .share, .link, .counters] s t

/-- A strobe accepted in STILL is a roll start: line 0, a ring of line 0 alone, sweep and held strobe dropped, the hold-over
stopped, and runs in flight returned to their confirmed states. The timelines are cleared, each generator re-announces its
value at line 0, the generator line becomes 0, the pedal event queues are emptied, and the pedal source re-announces both
positions at line 0. -/
def Obligations.AcceptedStrobeInStillStartsTheRoll : Prop :=
  ∀ (s : State) (now : Time), s.mode.active = true → s.windowOpen now → s.scan.roll = .still →
    ∃ t, exec (.strobe now) s = .next t ∧ t.now = now ∧
      t.scan =
        { sweep := some { line := 0, time := now, taken := 0, repeats := 0 }, held := none, lastStrobe := some now,
          line := 0, ring := [{ line := 0, time := now }], roll := .moving,
          stallAt := some (after now (1000 * s.store.tLmax)), holdOverAt := none } ∧
      (∀ i : Fin 24, ∀ n,
        (s.tracks[i].decode = .opening n → t.tracks[i] = { decode := .closed, runStart := none, orphan := false }) ∧
        (s.tracks[i].decode = .closing n →
          t.tracks[i] = { decode := .openHole, runStart := none, orphan := s.tracks[i].orphan }) ∧
        (s.tracks[i].decode = .closed ∨ s.tracks[i].decode = .openHole → t.tracks[i] = s.tracks[i])) ∧
      t.shade.generatorLine = 0 ∧
      (∀ h : Half, s.generates h = false →
        t.half h = { s.half h with timeline := [], through := none } ∧ t.slot (.shade h) = s.slot (.shade h)) ∧
      (∀ (h : Half) (g : Segment), s.generates h = true →
        (∀ old : Segment, (s.half h).generator = some old →
          g = { start := 0, s0 := old.value s.shade.generatorLine, target := old.target, rate := old.rate,
                accent := old.accent }) →
        ((s.half h).generator = none →
          g = { start := 0, s0 := 16 * (s.store.half h).default, target := (s.shadeParams h).target,
                rate := (s.shadeParams h).rate, accent := (s.shadeParams h).accent }) →
        (t.half h).timeline = [g] ∧ MakesSegment s t h g) ∧
      (s.isPedalSource = true →
        t.pedals.lastDamper = s.damperReading ∧ t.pedals.lastShift = s.shiftReading ∧
        MakesMoves s t
          [{ pedal := .damper, position := s.damperReading, line := 0 },
            { pedal := .shift, position := s.shiftReading, line := 0 }] ∧
        (s.isPedalDrive = true → ∀ action : Time,
          action = shifted now (s.store.delay - 1000 * s.store.pedalLead) → reached now action = false →
          (t.pedal .damper).events = [{ position := s.damperReading, line := 0, action := some action }] ∧
          (t.pedal .shift).events = [{ position := s.shiftReading, line := 0, action := some action }])) ∧
      (s.isPedalSource = false → t.pedals.queue = s.pedals.queue ∧ t.slot .pedal = s.slot .pedal) ∧
      (s.isPedalDrive = false ∨ s.isPedalSource = false → ∀ p : Pedal, (t.pedal p).events = []) ∧
      ChangesOnly [.scan, .tracks, .shade, .pedals, .share, .link, .counters] s t

/-- The move of a decode state by a track value, row by row of the manual's table, with its run start line, what it confirms
and the orphan mark cleared where the state reaches CLOSED. -/
def Obligations.TrackDecodingFollowsTheTable : Prop :=
  ∀ (v : Voicing) (line : Line) (value : Nat) (x : Track) (n : Nat),
    (x.decode = .closed →
      (value < v.tOpen → x.move v line value = (x, none)) ∧
      (v.tOpen ≤ value → 1 < v.kOpen →
        x.move v line value = ({ decode := .opening 1, runStart := some line, orphan := x.orphan }, none)) ∧
      (v.tOpen ≤ value → v.kOpen = 1 →
        x.move v line value = ({ decode := .openHole, runStart := some line, orphan := x.orphan }, some .opening))) ∧
    (x.decode = .opening n →
      (v.tOpen ≤ value → n + 1 < v.kOpen →
        x.move v line value = ({ x with decode := .opening (n + 1) }, none)) ∧
      (v.tOpen ≤ value → n + 1 = v.kOpen → x.move v line value = ({ x with decode := .openHole }, some .opening)) ∧
      (value < v.tOpen → x.move v line value = ({ decode := .closed, runStart := none, orphan := false }, none))) ∧
    (x.decode = .openHole →
      (v.tClose < value → x.move v line value = (x, none)) ∧
      (value ≤ v.tClose → 1 < v.kClose →
        x.move v line value = ({ decode := .closing 1, runStart := some line, orphan := x.orphan }, none)) ∧
      (value ≤ v.tClose → v.kClose = 1 →
        x.move v line value = ({ decode := .closed, runStart := some line, orphan := false }, some .closing))) ∧
    (x.decode = .closing n →
      (value ≤ v.tClose → n + 1 < v.kClose →
        x.move v line value = ({ x with decode := .closing (n + 1) }, none)) ∧
      (value ≤ v.tClose → n + 1 = v.kClose →
        x.move v line value = ({ decode := .closed, runStart := x.runStart, orphan := false }, some .closing)) ∧
      (v.tClose < value →
        x.move v line value = ({ decode := .openHole, runStart := none, orphan := x.orphan }, none)))

/-- The Nth cell completes the sweep: every decoded track moves by its value on the captured line and on each of its trailing
repeats, which have the same values, the generator line becomes the last of them, and a held strobe's sweep begins. -/
def Obligations.CaptureSweepDecodesItsLine : Prop :=
  ∀ (s : State) (now : Time) (cells : List Byte) (x : Sweep),
    s.scan.sweep = some x → x.taken + cells.length = s.store.cells →
    ∃ t, exec (.captureSweepComplete now cells) s = .next t ∧ t.now = now ∧
      t.scan =
        { s.scan with
          sweep := s.scan.held.map fun y => { line := y.line, time := y.time, taken := 0, repeats := y.repeats }
          held := none } ∧
      t.shade.generatorLine = x.line + BitVec.ofNat 16 x.repeats ∧
      (∀ i : Fin 24,
        (s.store.function i = .unused → t.tracks[i] = s.tracks[i]) ∧
        (s.store.function i ≠ .unused → ∀ y : Track,
          y = decodedThrough s.store (s.store.tracks[i].value cells) x.line x.repeats s.tracks[i] →
          t.tracks[i].decode = y.decode ∧ t.tracks[i].runStart = y.runStart)) ∧
      (∀ e : TrackEntry, e.value cells =
        (match e.cellB with
         | some b => max (cells.getD e.cellA 0).toNat (cells.getD b 0).toNat
         | none => (cells.getD e.cellA 0).toNat)) ∧
      ChangesOnly [.scan, .tracks, .shade, .notes, .keys, .pedals, .share, .link, .control, .counters] s t

/-- What a line confirms on one note track that is not orphaned. An opening, in PLAY with the roll MOVING, makes a WAITING
record with its run start line, that line's time from the ring (or the oldest line's, when it is too old) and its arm time;
with 40 records held it is refused and the track orphaned; elsewhere nothing is made. A closing gives the key's records
without a release time one, and takes a key in HOLD to RETURN when that time is past. -/
def Obligations.OnsetsAndClosingsReachTheList : Prop :=
  ∀ (s : State) (now : Time) (cells : List Byte) (x : Sweep) (i : Fin 24) (k : Driver) (e : Edge) (y : Track)
    (line : Line) (time : Time),
    s.settled → s.scan.sweep = some x → x.repeats = 0 → x.taken + cells.length = s.store.cells →
    s.store.function i = .note k → s.tracks[i].orphan = false → s.ConfirmsOnly x.line cells i e →
    (s.moveTrack x.line cells i).1 = y → y.runStart = some line →
    s.scan.ringTime line = .at time ∨
      (s.scan.ringTime line = .tooOld ∧ ∃ oldest, s.scan.ring.head? = some oldest ∧ time = oldest.time) →
    ∃ t, exec (.captureSweepComplete now cells) s = .next t ∧ t.now = now ∧
      (e = .opening →
        (s.mode = .play → s.scan.roll = .moving → s.notes.length < 40 →
          (∀ m ∈ s.notes, m.driver = k → m.releaseTime.isSome = true) →
          ∀ n : Note,
            n = { driver := k, onsetLine := line, onsetTime := time, state := .waiting
                  armTime := shifted time (s.store.delay - 100 * (s.store.key k).fSlow - 1000 * s.store.margin)
                  strike := none, claimTag := none, windowEnd := none, releaseTime := none, unannounced := false
                  released := false, atOnce := false } →
            reached now n.armTime = false →
            n ∈ t.notes ∧ (∀ m ∈ s.notes, m ∈ t.notes) ∧ t.notes.length = s.notes.length + 1 ∧ t.tracks[i] = y ∧
            t.counters = s.counters ∧ ChangesOnly [.scan, .tracks, .shade, .notes] s t) ∧
        (s.mode = .play → s.scan.roll = .moving → 40 ≤ s.notes.length →
          t.notes = s.notes ∧ t.tracks[i] = { y with orphan := true } ∧ t.control.dropMark = true ∧
          t.counters.get .notesDroppedListFull = min (s.counters.get .notesDroppedListFull + 1) 65535 ∧
          CountersBut [.notesDroppedListFull] s t ∧
          ChangesOnly [.scan, .tracks, .shade, .link, .control, .counters] s t) ∧
        (s.mode ≠ .play ∨ s.scan.roll = .still →
          t.notes = s.notes ∧ t.tracks[i] = y ∧ ChangesOnly [.scan, .tracks, .shade] s t)) ∧
      (e = .closing → ∀ release : Time, release = shifted time (s.store.delay - 1000 * (s.store.key k).relLead) →
        t.tracks[i] = y ∧ t.counters = s.counters ∧
        ((∀ m ∈ s.notes, m.driver = k → m.releaseTime = none → m.state = .sounding → reached now release = false) →
          (∀ m ∈ s.notes,
            (if m.driver = k ∧ m.releaseTime = none then { m with releaseTime := some release } else m) ∈ t.notes) ∧
          t.notes.length = s.notes.length ∧ ChangesOnly [.scan, .tracks, .shade, .notes] s t) ∧
        (reached now release = true → ∀ base applied : Nat, (s.key k).stroke = .hold base applied →
          (∃ m ∈ s.notes, m.driver = k ∧ m.releaseTime = none ∧ m.state = .sounding ∧ m.released = false) →
          (t.key k).stroke = .returning now ∧ (∀ m ∈ t.notes, m.driver = k → m.state ≠ .sounding)))

/-- What a line confirms on one control track. A function reads open when a track that carries it is in OPEN or CLOSING; the
level code selects the target, HUSH makes it 0, HUSH or SWELL makes the rate fast, and the pedal readings name the positions.
An edge of an expression track of a half that the station is the authority of makes no segment when the parameters are the
generator segment's, and else a segment from the generator's value at the line, or from the default. An edge of a pedal track
at the pedal source makes a frame for each pedal whose position has changed, which a station that is also the pedal drive
enters in its own event queue. -/
def Obligations.ControlEdgesMakeFrames : Prop :=
  ∀ (s : State) (now : Time) (cells : List Byte) (x : Sweep) (i : Fin 24) (e : Edge),
    (∀ reads : TrackFunction → Bool,
      (∀ f : TrackFunction, reads f = true ↔ ∃ j : Fin 24, s.store.function j = f ∧
        (s.tracks[j].decode = .openHole ∨ ∃ n, s.tracks[j].decode = .closing n)) →
      (∀ (h : Half) (c : Nat),
        c = 4 * (reads (.level4 h)).toNat + 2 * (reads (.level2 h)).toNat + (reads (.level1 h)).toNat →
        s.shadeParams h =
          { target := if reads (.hush h) = true then 0 else 16 * (s.store.half h).targets.getD c 0
            rate :=
              if reads (.hush h) = true ∨ reads (.swell h) = true then (s.store.half h).fast
              else (s.store.half h).slow
            accent := reads (.accent h) }) ∧
      s.damperReading = (if reads .sustain = true then .down else if reads .halfdamp = true then .half else .up) ∧
      s.shiftReading = (if reads .soft = true then .down else .up)) ∧
    (s.scan.sweep = some x → x.repeats = 0 → x.taken + cells.length = s.store.cells → s.ConfirmsOnly x.line cells i e →
    ∃ t, exec (.captureSweepComplete now cells) s = .next t ∧ t.now = now ∧ t.shade.generatorLine = x.line ∧
      (∀ h : Half, (s.store.function i).expressionHalf = some h →
        (s.store.authority h ≠ some s.number → ChangesOnly [.scan, .tracks, .shade] s t ∧ t.half h = s.half h) ∧
        (s.store.authority h = some s.number →
          (∀ old : Segment, (s.half h).generator = some old → old.params = t.shadeParams h →
            t.half h = s.half h ∧ t.link = s.link ∧ t.counters = s.counters) ∧
          (∀ g : Segment,
            (∀ old : Segment, (s.half h).generator = some old → old.params ≠ t.shadeParams h ∧
              g = { start := x.line, s0 := old.value x.line, target := (t.shadeParams h).target,
                    rate := (t.shadeParams h).rate, accent := (t.shadeParams h).accent }) →
            ((s.half h).generator = none →
              g = { start := x.line, s0 := 16 * (s.store.half h).default, target := (t.shadeParams h).target,
                    rate := (t.shadeParams h).rate, accent := (t.shadeParams h).accent }) →
            MakesSegment s t h g) ∧
          (∀ j : Half, j ≠ h → t.half j = s.half j) ∧ SlotsOnly [.shade h] s t ∧
          ChangesOnly [.scan, .tracks, .shade, .link, .counters] s t)) ∧
      (s.store.function i = .sustain ∨ s.store.function i = .halfdamp ∨ s.store.function i = .soft →
        (s.isPedalSource = false → ChangesOnly [.scan, .tracks, .shade] s t) ∧
        (s.isPedalSource = true → ∀ moves : List PedalMove,
          moves =
            (if t.damperReading = s.pedals.lastDamper then []
             else [{ pedal := .damper, position := t.damperReading, line := x.line }]) ++
            (if t.shiftReading = s.pedals.lastShift then []
             else [{ pedal := .shift, position := t.shiftReading, line := x.line }]) →
          t.pedals.lastDamper = t.damperReading ∧ t.pedals.lastShift = t.shiftReading ∧ MakesMoves s t moves ∧
          (s.isPedalDrive = false → ∀ p : Pedal, t.pedal p = s.pedal p) ∧
          (s.isPedalDrive = true → ∀ (lineTime action : Time) (m : PedalMove), s.scan.ringTime x.line = .at lineTime →
            action = shifted lineTime (s.store.delay - 1000 * s.store.pedalLead) → reached now action = false →
            (s.pedal m.pedal).events = [] →
            (m ∈ moves →
              (t.pedal m.pedal).events = [{ position := m.position, line := x.line, action := some action }]) ∧
            (m.pedal ∉ moves.map PedalMove.pedal → t.pedal m.pedal = s.pedal m.pedal)) ∧
          (s.isPedalDrive = false →
            SlotsOnly [.pedal] s t ∧ ChangesOnly [.scan, .tracks, .shade, .pedals, .link, .counters] s t) ∧
          SlotsOnly [.pedal, .load] s t ∧ ChangesOnly [.scan, .tracks, .shade, .pedals, .share, .link, .counters] s t)))

/-- The stall timer's expiry makes the roll STILL, starts the hold-over timer and arms every WAITING record: the record of a
key that can be struck stays with its strike and is WAITING no longer, and the record of a faulted key or of a cluster in
shutdown is dropped and counted. After the last arm the timeline of its half is pruned to the current line. -/
def Obligations.StallArmsEveryWaitingNote : Prop :=
  ∀ (s : State) (now expiry : Time),
    s.scan.roll = .moving → s.scan.stallAt = some expiry → reached now expiry = true →
    ∃ t, exec (.stall now) s = .next t ∧ t.now = now ∧
      t.scan =
        { s.scan with
          roll := .still, stallAt := none, holdOverAt := some (after now (1000 * s.store.tHold)) } ∧
      (∀ n ∈ t.notes, n.state ≠ .waiting) ∧
      (∀ n ∈ s.notes, n.state = .waiting → (∀ m ∈ s.notes, m.same n = true → m = n) →
        ((s.key n.driver).stroke ≠ .faulted → s.isShut (clusterOf n.driver) = false → s.holdOff = false →
          ∃ m ∈ t.notes, m.same n = true ∧ m.state ≠ .waiting ∧ m.strike.isSome = true) ∧
        ((s.key n.driver).stroke = .faulted ∨ s.isShut (clusterOf n.driver) = true →
          (∀ m ∈ t.notes, m.same n = false) ∧
          min (s.counters.get .notesDroppedFault + 1) 65535 ≤ t.counters.get .notesDroppedFault ∧
          t.control.dropMark = true)) ∧
      (∀ h : Half, (∃ n ∈ s.notes, n.state = .waiting) →
        (∀ n ∈ s.notes, n.state = .waiting → s.store.halfOf n.driver = h) →
        ∀ (a b : Segment) (rest : List Segment), (t.half h).timeline = a :: b :: rest →
          0 < lineDiff b.start s.scan.line) ∧
      ChangesOnly [.scan, .shade, .notes, .keys, .share, .link, .control, .counters] s t

/-- The hold-over's end stops its timer, orphans the note tracks that read open, and gives each record without a release time
the release time now: a key in HOLD with such a SOUNDING record goes to RETURN and its record leaves, a SOUNDING record whose
key is in STRIKE stays with its release taken, and an ARMED record keeps its fire time. Other keys and records stay as they
were. The pedal event queues are emptied, and each pedal takes an UP action, carried out in PLAY and WINDDOWN. -/
def Obligations.HoldOverEndReleasesWhatIsHeld : Prop :=
  ∀ (s : State) (now expiry : Time),
    s.scan.roll = .still → s.scan.holdOverAt = some expiry → reached now expiry = true →
    ∃ t, exec (.holdOverEnd now) s = .next t ∧ t.now = now ∧
      t.scan = { s.scan with holdOverAt := none } ∧
      (∀ i : Fin 24, ∀ k,
        (s.store.function i = .note k → s.tracks[i].readsOpen = true →
          t.tracks[i] = { s.tracks[i] with orphan := true }) ∧
        (s.store.function i = .note k → s.tracks[i].readsOpen = false → t.tracks[i] = s.tracks[i])) ∧
      (∀ n ∈ t.notes, n.releaseTime.isSome = true) ∧
      (s.settled → s.notes.length ≤ 40 →
        (∀ (k : Driver) (base applied : Nat), (s.key k).stroke = .hold base applied →
          (∃ m ∈ s.notes, m.driver = k ∧ m.state = .sounding ∧ m.releaseTime = none ∧ m.released = false) →
          t.key k =
            { s.key k with
              stroke := .returning now, holdCurrent := 0, overRun := none, openRun := none, lowCurrent := true } ∧
          ∀ m ∈ t.notes, m.driver = k → m.state ≠ .sounding) ∧
        (∀ k : Driver,
          (∀ base applied : Nat, (s.key k).stroke ≠ .hold base applied) ∨
              (∀ m ∈ s.notes, m.driver = k → m.state = .sounding → m.releaseTime ≠ none) →
          t.key k = s.key k ∧
          ∀ m ∈ s.notes, m.driver = k → m.releaseTime ≠ none → (∀ m' ∈ s.notes, m'.same m = true → m' = m) →
            m ∈ t.notes) ∧
        (∀ m ∈ s.notes, m.releaseTime = none → (∀ m' ∈ s.notes, m'.same m = true → m' = m) →
          (m.state ≠ .sounding → { m with releaseTime := some now } ∈ t.notes) ∧
          (m.state = .sounding → (∀ base applied : Nat, (s.key m.driver).stroke ≠ .hold base applied) →
            { m with releaseTime := some now, released := true } ∈ t.notes)) ∧
        (∀ m ∈ t.notes, ∃ m' ∈ s.notes, m'.same m = true ∧ m'.state = m.state ∧ m'.strike = m.strike)) ∧
      (∀ p : Pedal, TakesAction s t now p .up 0 [] (s.mode = .play ∨ s.mode = .winddown)) ∧
      t.mode = (if s.mode = .winddown ∧ t.quiescent = true then .standby else s.mode) ∧
      ChangesOnly [.mode, .scan, .tracks, .shade, .notes, .keys, .pedals, .share, .link, .control, .counters] s t

/-! ### Expression and shade -/

/-- At a keep count of 16 a KEEP with the generator line is queued while a generator segment is present, into a free slot or
into the half's queue, where it overwrites a KEEP or joins, a queue of four dropping and counting its oldest; the count is
reloaded in either case. -/
def Obligations.KeepCountQueuesAKeep : Prop :=
  ∀ (s : State) (now : Time) (h : Half), s.generates h = true → 16 ≤ (s.half h).keepCount →
    ∃ t, exec (.keepCountExpiry now h) s = .next t ∧ t.now = now ∧ (t.half h).keepCount = 0 ∧
      ((s.half h).generator = none → t.half h = { s.half h with keepCount := 0 } ∧ ChangesOnly [.shade] s t) ∧
      ((s.half h).generator ≠ none →
        ((s.slot (.shade h)).state.free = true → (s.half h).queue = [] →
          t.half h = { s.half h with keepCount := 0 } ∧ t.counters = s.counters ∧
          t.slot (.shade h) =
            { state := .queued, frame := some (.keep h s.shade.generatorLine), queuedAt := now, attempts := 0,
              cancel := none }) ∧
        (∀ (queue : List ShadeFrame) (shed : Bool), (s.slot (.shade h)).state.free = false →
          shadeQueueAfter (.keep s.shade.generatorLine) (s.half h).queue = (queue, shed) →
          t.half h = { s.half h with keepCount := 0, queue } ∧ t.link = s.link ∧ (shed = false → t.counters = s.counters) ∧
          (shed = true →
            t.counters.get .shadeFramesShed = min (s.counters.get .shadeFramesShed + 1) 65535) ∧
          CountersBut [.shadeFramesShed] s t)) ∧
      (∀ j : Half, j ≠ h → t.half j = s.half j) ∧ SlotsOnly [.shade h] s t ∧
      ChangesOnly [.shade, .link, .counters] s t

/-! ### The note list -/

/-- The arm event of the WAITING record next due, whose key can be struck: stages 1 to 8 give its energy, duty, share and
fire time, and, with no joinable slot and a free one, its share is the amount of a new claim over its strike window. Stated
for an amount within the headroom, with a fire time still ahead, and with one already past, where the note is marked late and
strikes its resting key at once, its claim then being late as well. -/
def Obligations.ArmEventComputesAndClaims : Prop :=
  ∀ (s : State) (now : Time) (n : Note) (c : ClaimId) (a : ShadeAnswer) (x : Strike) (late : Bool) (stop : Time),
    s.ArmsAs now n a x late → stop = windowEndOf (s.store.key n.driver) x.fireTime →
    s.joinSlot x.fireTime stop = none → s.freeSlot = some c →
    x.share ≤ (s.setNow now).headroom x.fireTime stop (some c) →
    (late = false → reached now x.fireTime = false →
      ∃ t, exec (.armEvent now) s = .next t ∧ t.now = now ∧
        { n with state := .armed, strike := some x, windowEnd := some stop
                 claimTag := some { slot := c, tag := (s.claimSlot c).counter + 1 } } ∈ t.notes ∧
        t.notes.length = s.notes.length ∧
        t.claimSlot c =
          { counter := (s.claimSlot c).counter + 1
            claim := some
              { tag := (s.claimSlot c).counter + 1, amount := x.share, windowStart := x.fireTime, windowEnd := stop,
                overdrawn := false, late := false } } ∧
        (t.slot (.claim c)).state = .queued ∧ (t.slot (.claim c)).queuedAt = now ∧
        t.claimSlot c.other = s.claimSlot c.other ∧ t.share.ownLoad = s.share.ownLoad ∧ SlotsOnly [.claim c] s t ∧
        (a.projected = false → t.counters = s.counters) ∧
        (a.projected = true →
          t.counters.get .projectedShades = min (s.counters.get .projectedShades + 1) 65535) ∧
        CountersBut [.projectedShades] s t ∧
        ChangesOnly [.shade, .notes, .share, .link, .counters] s t) ∧
    (late = true → (s.key n.driver).stroke = .rest → s.dropsStrike n.driver = false →
      (∀ r, n.releaseTime = some r → reached now r = false) → ∀ e : Nat × Nat,
      capAtFire (s.store.key n.driver) (s.capFor n.driver) x.energy x.duty = e →
      ∃ t, exec (.armEvent now) s = .next t ∧ t.now = now ∧
        (t.key n.driver).stroke =
          .strike (after now (100 * (s.store.key n.driver).tPulse)) (compensate s.store s.conv.vMeas e.2) ∧
        (∃ m ∈ t.notes, m.same n = true ∧ m.state = .sounding ∧
          m.strike = some { x with energy := e.1, duty := e.2 } ∧ x.fireTime = now) ∧
        t.counters.get .lateStrikes = min (s.counters.get .lateStrikes + 1) 65535 ∧
        t.counters.get .lateClaims = min (s.counters.get .lateClaims + 1) 65535 ∧
        ((t.claimSlot c).claim.map Claim.late) = some true ∧ KeysBut n.driver s t ∧
        CountersBut [.projectedShades, .lateStrikes, .lateClaims] s t ∧
        ChangesOnly [.shade, .notes, .keys, .share, .link, .counters] s t)

/-- Where the share of a note just armed goes when it forms no new claim, and what a fit does. A QUEUED slot is joinable when
its window lies 2,000 µs or less from the note's; the one queued first is joined, and its claim takes the share and widens
its window over the note's. The free slot is CLAIM-A before CLAIM-B. With no slot joinable or free the note is unannounced
and fitted alone. A fit of an amount above the headroom gives each ARMED member the proportional duty, not below its floor,
and stage 9 where that is lower; the amount becomes the sum of the members' shares, and the claim is overdrawn when that
still exceeds the headroom. The headroom over a window is the supply limit less the reserve and the demand, not below 0: the
loads of the peers present, the own standing load, and every unexpired claim record, other QUEUED or SENDING claim slot and
departed claim that overlaps. -/
def Obligations.ClaimSharesAreJoinedAndFitted : Prop :=
  ∀ (s : State) (now : Time) (n : Note) (c : ClaimId) (a : ShadeAnswer) (x : Strike) (stop : Time) (y z : Claim) (head : Nat),
    (∀ (start stop : Time) (fitting : Option ClaimId),
      (s.headroom start stop fitting : Int) =
        max 0 ((s.store.supplyLimit : Int) - s.store.reserve - s.demandOver start stop fitting)) ∧
    (∀ (start stop : Time) (joinable : ClaimId → Bool),
      (∀ d : ClaimId, joinable d = true ↔
        (s.slot (.claim d)).state = .queued ∧ ∃ w : Claim, (s.claimSlot d).claim = some w ∧
          timeDiff w.windowStart stop ≤ 2000 ∧ timeDiff start w.windowEnd ≤ 2000) →
      s.joinSlot start stop =
        (if joinable .a = true ∧ joinable .b = true then
           (if earlier (s.slot (.claim .b)).queuedAt (s.slot (.claim .a)).queuedAt then some .b else some .a)
         else if joinable .a = true then some .a else if joinable .b = true then some .b else none)) ∧
    (s.freeSlot =
      (if (s.slot (.claim .a)).state ≠ .queued ∧ (s.slot (.claim .a)).state ≠ .sending then some .a
       else if (s.slot (.claim .b)).state ≠ .queued ∧ (s.slot (.claim .b)).state ≠ .sending then some .b else none)) ∧
    (windowEndOf (s.store.key n.driver) x.fireTime =
      after x.fireTime (100 * (s.store.key n.driver).tPulse + 1000 * (s.store.key n.driver).tRep)) ∧
    (s.ArmsAs now n a x false → reached now x.fireTime = false → stop = windowEndOf (s.store.key n.driver) x.fireTime →
      (s.joinSlot x.fireTime stop = some c → (s.claimSlot c).claim = some y →
        z = { y with amount := y.amount + x.share, windowStart := earlierOf y.windowStart x.fireTime
                     windowEnd := laterOf y.windowEnd stop } →
        z.amount ≤ (s.setNow now).headroom z.windowStart z.windowEnd (some c) →
        ∃ t, exec (.armEvent now) s = .next t ∧ t.now = now ∧
          { n with state := .armed, strike := some x, windowEnd := some z.windowEnd
                   claimTag := some { slot := c, tag := y.tag } } ∈ t.notes ∧
          t.claimSlot c = { s.claimSlot c with claim := some z } ∧ t.claimSlot c.other = s.claimSlot c.other ∧
          t.link = s.link ∧ CountersBut [.projectedShades] s t ∧ ChangesOnly [.shade, .notes, .share, .counters] s t) ∧
      (s.joinSlot x.fireTime stop = none → s.freeSlot = none →
        head = (s.setNow now).headroom x.fireTime stop none →
        ∃ t, exec (.armEvent now) s = .next t ∧ t.now = now ∧
          t.counters.get .unannouncedStrikes = min (s.counters.get .unannouncedStrikes + 1) 65535 ∧
          t.claimSlot c = s.claimSlot c ∧ t.link.slots.claimA = s.link.slots.claimA ∧
          t.link.slots.claimB = s.link.slots.claimB ∧
          (x.share ≤ head →
            { n with state := .armed, strike := some x, claimTag := none, windowEnd := none, unannounced := true } ∈
                t.notes ∧
              CountersBut [.projectedShades, .unannouncedStrikes] s t ∧
              ChangesOnly [.shade, .notes, .share, .counters] s t) ∧
          (∀ (duty : Nat) (w : Strike), head < x.share →
            duty = max (s.store.key n.driver).pFloor (x.duty * head / x.share) → duty < x.duty →
            reduceStrike s.store (s.store.key n.driver) now n.onsetTime duty = (w, false) →
            reached now w.fireTime = false →
            { n with state := .armed, strike := some w, claimTag := none, windowEnd := none, unannounced := true } ∈
                t.notes ∧
              CountersBut [.projectedShades, .unannouncedStrikes] s t))) ∧
    ((s.claimSlot c).claim = some y → head = s.headroom y.windowStart y.windowEnd (some c) →
      (y.amount ≤ head →
        (s.fit c).claimSlot c = s.claimSlot c ∧ (s.fit c).counters = s.counters ∧
        (∀ m ∈ s.notes, ∃ m' ∈ (s.fit c).notes, m'.same m = true ∧ m'.strike = m.strike ∧ m'.state = m.state)) ∧
      (head < y.amount →
        (∀ (m : Note) (k : Strike) (duty : Nat), m ∈ s.notes → s.isMember c m = true → m.strike = some k →
          duty = max (s.store.key m.driver).pFloor (k.duty * head / y.amount) →
          (m.state ≠ .armed ∨ k.duty ≤ duty → ∃ m' ∈ (s.fit c).notes, m'.same m = true ∧ m'.strike = some k) ∧
          (m.state = .armed → duty < k.duty →
            ∃ m' ∈ (s.fit c).notes, m'.same m = true ∧
              m'.strike = some (reduceStrike s.store (s.store.key m.driver) s.now m.onsetTime duty).1)) ∧
        (∀ m ∈ s.notes, s.isMember c m = false → ∃ m' ∈ (s.fit c).notes, m'.same m = true ∧ m'.strike = m.strike) ∧
        ((s.fit c).claimSlot c).claim.map Claim.amount = some ((s.fit c).memberShares c) ∧
        ((s.fit c).claimSlot c).claim.map Claim.windowEnd = some y.windowEnd ∧
        ((s.fit c).claimSlot c).claim.map Claim.tag = some y.tag ∧
        ((s.fit c).claimSlot c).claim.map Claim.windowStart = some ((s.fit c).earliestFire c y.windowStart) ∧
        ((s.fit c).claimSlot c).claim.map Claim.overdrawn =
          some (y.overdrawn || decide (head < (s.fit c).memberShares c)) ∧
        (s.fit c).counters.get .overdrawnClaims =
          (if y.overdrawn = false ∧ head < (s.fit c).memberShares c then
             min (s.counters.get .overdrawnClaims + 1) 65535 else s.counters.get .overdrawnClaims)))

/-- A record that cannot sound is removed and counted: at its arm event, with no claim placed, when its key is FAULTED or its
cluster in thermal shutdown, and at its fire event in those cases and under hold-off, the key's state unchanged. -/
def Obligations.EventsDropWhatCannotSound : Prop :=
  ∀ (s : State) (now : Time) (n : Note), s.settled → (s.setNow now).nextDue = some n →
    (n.state = .waiting → (s.key n.driver).stroke = .faulted ∨ s.isShut (clusterOf n.driver) = true →
      ∃ t, exec (.armEvent now) s = .next t ∧ t.now = now ∧
        t.notes = s.notes.filter (fun m => !m.same n) ∧
        t.counters.get .notesDroppedFault = min (s.counters.get .notesDroppedFault + 1) 65535 ∧
        CountersBut [.notesDroppedFault] s t ∧ t.control.dropMark = true ∧ SlotsOnly [.notice] s t ∧
        ChangesOnly [.shade, .notes, .link, .control, .counters] s t) ∧
    (∀ k : Strike, n.state = .armed → n.strike = some k →
      (s.key n.driver).stroke = .faulted ∨ s.isShut (clusterOf n.driver) = true ∨ s.holdOff = true →
      ∃ t, exec (.fireEvent now) s = .next t ∧ t.now = now ∧
        t.notes = s.notes.filter (fun m => !m.same n) ∧
        t.counters.get .notesDroppedFault = min (s.counters.get .notesDroppedFault + 1) 65535 ∧
        CountersBut [.notesDroppedFault] s t ∧ t.control.dropMark = true ∧
        t.share.ownLoad = s.share.ownLoad ∧ ChangesOnly [.notes, .share, .link, .control, .counters] s t)

/-- The fire event of an ARMED record whose key is at rest, or has been returning for its repetition time, strikes the key
at the compensated duty, under the caps now in force, until now plus its pulse length. The overvoltage cap is in force while
the overvoltage warning is present, the hot cap while the key's cluster stands at HOT or above, and the smaller of both; a cap
below the duty brings it to the cap or the floor duty and the energy to the one that stands for it. The duty applied is the
duty times V_nom over the held supply value, not below V_uv, rounded to nearest and at most 255. -/
def Obligations.FireEventStrikesTheKey : Prop :=
  ∀ (s : State) (now : Time) (n : Note) (k : Strike) (e : Nat × Nat),
    (∀ (d : Driver) (warned hot : Bool), warned = s.prot.ovw.present →
      hot = (decide ((s.prot.clusters.get (clusterOf d)).level = .hot) ||
        decide ((s.prot.clusters.get (clusterOf d)).level = .shutdown)) →
      s.capFor d =
        (match warned, hot with
         | true, true => some (min s.store.pOvcap s.store.pHotcap)
         | true, false => some s.store.pOvcap
         | false, true => some s.store.pHotcap
         | false, false => none)) ∧
    (∀ (r : KeyRecord) (cap energy duty : Nat),
      capAtFire r none energy duty = (energy, duty) ∧
      (duty ≤ cap → capAtFire r (some cap) energy duty = (energy, duty)) ∧
      (cap < duty → capAtFire r (some cap) energy duty = (energyOf r (max r.pFloor cap), max r.pFloor cap)) ∧
      (r.pFloor ≤ duty → (capAtFire r (some cap) energy duty).2 ≤ duty)) ∧
    (∀ (v : Voicing) (measured duty supply : Nat), supply = max measured v.vUv → 0 < supply →
      compensate v measured duty = min 255 ((duty * v.vNom + supply / 2) / supply) ∧
      compensate v measured 0 = 0 ∧ (supply = v.vNom → compensate v measured duty = min 255 duty)) ∧
    (s.settled → (s.setNow now).nextDue = some n → n.state = .armed → n.strike = some k →
    (∀ m ∈ s.notes, m.same n = true → m = n) → (∀ r, n.releaseTime = some r → reached now r = false) →
    s.dropsStrike n.driver = false →
    (s.key n.driver).stroke = .rest ∨
      (∃ start, (s.key n.driver).stroke = .returning start ∧
        reached now (after start (1000 * (s.store.key n.driver).tRep)) = true) →
    capAtFire (s.store.key n.driver) (s.capFor n.driver) k.energy k.duty = e →
    ∃ t, exec (.fireEvent now) s = .next t ∧ t.now = now ∧
      t.key n.driver =
        { s.key n.driver with
          stroke := .strike (after now (100 * (s.store.key n.driver).tPulse)) (compensate s.store s.conv.vMeas e.2)
          overRun := none, openRun := none } ∧
      { n with state := .sounding, strike := some { k with energy := e.1, duty := e.2 } } ∈ t.notes ∧
      t.notes.length = s.notes.length ∧ KeysBut n.driver s t ∧ CountersBut [.lateClaims] s t ∧
      (n.claimTag = none → t.share = s.share ∧ t.counters = s.counters) ∧
      ChangesOnly [.notes, .keys, .share, .counters] s t)

/-- A fire event that finds its key in RETURN too early, in HOLD, or in STRIKE is deferred to the time the key allows. In
RETURN a repetition delay is counted; in HOLD, and in STRIKE while the note that sounds has no release time by the pulse end,
that note is force-released; in STRIKE with such a release time a repetition delay is counted and nothing is forced. -/
def Obligations.FireEventDefersToTheRepetition : Prop :=
  ∀ (s : State) (now : Time) (n : Note) (k : Strike) (start stop : Time) (base applied : Nat),
    s.settled → (s.setNow now).nextDue = some n → n.state = .armed → n.strike = some k →
    (∀ m ∈ s.notes, m.same n = true → m = n) → s.dropsStrike n.driver = false →
    ((s.key n.driver).stroke = .returning start →
      reached now (after start (1000 * (s.store.key n.driver).tRep)) = false →
      ∃ t, exec (.fireEvent now) s = .next t ∧ t.now = now ∧
        { n with strike := some { k with fireTime := after start (1000 * (s.store.key n.driver).tRep) } } ∈ t.notes ∧
        t.counters.get .repetitionDelays = min (s.counters.get .repetitionDelays + 1) 65535 ∧
        CountersBut [.repetitionDelays, .lateClaims] s t ∧ ChangesOnly [.notes, .counters] s t) ∧
    ((s.key n.driver).stroke = .hold base applied →
      ∃ t, exec (.fireEvent now) s = .next t ∧ t.now = now ∧
        { n with strike := some { k with fireTime := after now (1000 * (s.store.key n.driver).tRep) } } ∈ t.notes ∧
        (∀ m ∈ t.notes, m.driver = n.driver → m.state ≠ .sounding) ∧
        t.key n.driver =
          { s.key n.driver with
            stroke := .returning now, holdCurrent := 0, overRun := none, openRun := none, lowCurrent := true } ∧
        KeysBut n.driver s t ∧ t.share.ownLoad = s.share.ownLoad - (s.key n.driver).holdCurrent ∧
        t.counters.get .forcedReleases = min (s.counters.get .forcedReleases + 1) 65535 ∧
        CountersBut [.forcedReleases, .lateClaims] s t ∧ ChangesOnly [.notes, .keys, .share, .link, .counters] s t) ∧
    ((s.key n.driver).stroke = .strike stop applied → reached now stop = false → s.releasedBy n.driver stop = false →
      ∃ t, exec (.fireEvent now) s = .next t ∧ t.now = now ∧
        { n with strike := some { k with fireTime := after stop (1000 * (s.store.key n.driver).tRep) } } ∈ t.notes ∧
        (∀ m ∈ t.notes, m.driver = n.driver → m.state = .sounding → m.releaseTime = some stop) ∧
        t.counters.get .forcedReleases = min (s.counters.get .forcedReleases + 1) 65535 ∧
        CountersBut [.forcedReleases, .lateClaims] s t ∧ ChangesOnly [.notes, .counters] s t) ∧
    ((s.key n.driver).stroke = .strike stop applied → reached now stop = false →
      (∃ m ∈ s.notes, m.driver = n.driver ∧ m.state = .sounding) →
      (∀ m ∈ s.notes, m.driver = n.driver → m.state = .sounding →
        ∃ r : Time, m.releaseTime = some r ∧ reached stop r = true) →
      ∃ t, exec (.fireEvent now) s = .next t ∧ t.now = now ∧
        { n with strike := some { k with fireTime := after stop (1000 * (s.store.key n.driver).tRep) } } ∈ t.notes ∧
        (∀ m ∈ s.notes, m.same n = false → m ∈ t.notes) ∧
        t.counters.get .repetitionDelays = min (s.counters.get .repetitionDelays + 1) 65535 ∧
        CountersBut [.repetitionDelays, .lateClaims] s t ∧ ChangesOnly [.notes, .counters] s t)

/-- The release event of a SOUNDING record whose key is in HOLD takes the key to RETURN and removes the record; a key in
STRIKE goes on with its pulse, and the event is not taken again. -/
def Obligations.ReleaseEventLetsTheKeyGo : Prop :=
  ∀ (s : State) (now : Time) (n : Note) (base applied : Nat) (stop : Time),
    s.settled → (s.setNow now).nextDue = some n → n.state = .sounding →
    ((s.key n.driver).stroke = .hold base applied →
      ∃ t, exec (.releaseEvent now) s = .next t ∧ t.now = now ∧
        t.key n.driver =
          { s.key n.driver with
            stroke := .returning now, holdCurrent := 0, overRun := none, openRun := none, lowCurrent := true } ∧
        t.notes = s.notes.filter (fun m => !(m.driver = n.driver && m.state = .sounding)) ∧
        t.share.ownLoad = s.share.ownLoad - (s.key n.driver).holdCurrent ∧ AnnouncesLoad s t ∧
        KeysBut n.driver s t ∧ SlotsOnly [.load] s t ∧ ChangesOnly [.notes, .keys, .share, .link] s t) ∧
    ((s.key n.driver).stroke = .strike stop applied →
      ∃ t, exec (.releaseEvent now) s = .next t ∧ t.now = now ∧
        t.notes.length = s.notes.length ∧ (∀ m ∈ t.notes, m.same n = true → m.released = true) ∧
        ChangesOnly [.notes] s t)

/-! ### The key drive bank -/

/-- A pulse at its end takes its key to HOLD at the base duty of its warmth, where an open-load run starts when the current
stands below I_open, or to RETURN when its note is released by then. A return that has lasted T_return takes the key to REST,
and in WINDDOWN the station may then be quiescent and go to STANDBY, which a NOTICE tells. -/
def Obligations.PulseAndReturnEndAtTheirTimes : Prop :=
  ∀ (s : State) (now : Time) (k : Driver) (stop start : Time) (duty base : Nat),
    ((s.key k).stroke = .strike stop duty → reached now stop = true →
      base = (if s.isWarm (clusterOf k) then (s.store.key k).pCool else (s.store.key k).pHold) →
      (s.releasedBy k stop = false →
        ∃ t, exec (.pulseEnd now k) s = .next t ∧ t.now = now ∧
          t.key k =
            { s.key k with
              stroke := .hold base (compensate s.store s.conv.vMeas base)
              holdCurrent := ceilDiv ((s.store.key k).iFull * base) 255
              openRun :=
                if compensate s.store s.conv.vMeas base ≠ 0 ∧ (s.key k).lowCurrent = true then some now else none } ∧
          t.share.ownLoad =
            s.share.ownLoad + ceilDiv ((s.store.key k).iFull * base) 255 - (s.key k).holdCurrent ∧ AnnouncesLoad s t ∧
          KeysBut k s t ∧ SlotsOnly [.load] s t ∧ ChangesOnly [.keys, .share, .link] s t) ∧
      (s.releasedBy k stop = true →
        ∃ t, exec (.pulseEnd now k) s = .next t ∧ t.now = now ∧
          t.key k =
            { s.key k with
              stroke := .returning now, holdCurrent := 0, overRun := none, openRun := none, lowCurrent := true } ∧
          t.notes = s.notes.filter (fun m => !(m.driver = k && m.state = .sounding)) ∧
          t.share.ownLoad = s.share.ownLoad - (s.key k).holdCurrent ∧ AnnouncesLoad s t ∧
          KeysBut k s t ∧ SlotsOnly [.load] s t ∧ ChangesOnly [.notes, .keys, .share, .link] s t)) ∧
    ((s.key k).stroke = .returning start → reached now (after start (1000 * (s.store.key k).tReturn)) = true →
      ∃ t, exec (.returnEnd now k) s = .next t ∧ t.now = now ∧ t.key k = { s.key k with stroke := .rest } ∧
        KeysBut k s t ∧ (s.mode ≠ .winddown → ChangesOnly [.keys] s t) ∧
        (s.mode = .winddown → (t.mode = .standby ↔ t.quiescent = true) ∧ (t.mode = .winddown ∨ t.mode = .standby)) ∧
        SlotsOnly [.notice] s t ∧ ChangesOnly [.mode, .keys, .link, .control] s t)

/-- The current monitors. At a key in STRIKE or HOLD, and at a pedal energized above duty 0, a rise above I_trip begins a run
with its time, and a fall to I_trip or below before the deglitch time has passed abandons it; a stage not energized is not
watched. In HOLD above duty 0 a fall of a key's current below I_open begins a run, a rise before 2 ms have passed abandons it,
and a run of 2 ms sets the key's open-load warning; in STRIKE a crossing is kept for the entry to HOLD. -/
def Obligations.CurrentCrossingsRunTheMonitors : Prop :=
  ∀ (s : State) (now since : Time) (k : Driver) (p : Pedal) (base applied : Nat) (stop : Time),
    ((s.key k).stroke.driven = true → (s.key k).overRun = none →
      ∃ t, exec (.tripCurrentCrossing now (.key k) true) s = .next t ∧ t.now = now ∧
        t.key k = { s.key k with overRun := some now } ∧ KeysBut k s t ∧ ChangesOnly [.keys] s t) ∧
    ((s.key k).stroke.driven = true → (s.key k).overRun = some since → timeDiff now since < s.store.deglitch →
      ∃ t, exec (.tripCurrentCrossing now (.key k) false) s = .next t ∧ t.now = now ∧
        t.key k = { s.key k with overRun := none } ∧ KeysBut k s t ∧ ChangesOnly [.keys] s t) ∧
    ((s.key k).stroke.driven = false → ∀ flag : Bool,
      exec (.tripCurrentCrossing now (.key k) flag) s = .next (s.setNow now) ∧
      exec (.openCurrentCrossing now k flag) s = .next (s.setNow now)) ∧
    ((s.pedal p).state.energized = true → (s.pedal p).base ≠ 0 → (s.pedal p).overRun = none →
      ∃ t, exec (.tripCurrentCrossing now (.pedal p) true) s = .next t ∧ t.now = now ∧
        t.pedal p = { s.pedal p with overRun := some now } ∧ (∀ q : Pedal, q ≠ p → t.pedal q = s.pedal q) ∧
        ChangesOnly [.pedals] s t) ∧
    ((s.pedal p).state.energized = true → (s.pedal p).base ≠ 0 → (s.pedal p).overRun = some since →
      timeDiff now since < s.store.deglitch →
      ∃ t, exec (.tripCurrentCrossing now (.pedal p) false) s = .next t ∧ t.now = now ∧
        t.pedal p = { s.pedal p with overRun := none } ∧ (∀ q : Pedal, q ≠ p → t.pedal q = s.pedal q) ∧
        ChangesOnly [.pedals] s t) ∧
    ((s.pedal p).state.energized = false ∨ (s.pedal p).base = 0 → ∀ above : Bool,
      exec (.tripCurrentCrossing now (.pedal p) above) s = .next (s.setNow now)) ∧
    ((s.key k).stroke = .strike stop applied → ∀ below : Bool,
      ∃ t, exec (.openCurrentCrossing now k below) s = .next t ∧ t.now = now ∧
        t.key k = { s.key k with lowCurrent := below } ∧ KeysBut k s t ∧ ChangesOnly [.keys] s t) ∧
    ((s.key k).stroke = .hold base applied → applied ≠ 0 →
      ((s.key k).openRun = none →
        ∃ t, exec (.openCurrentCrossing now k true) s = .next t ∧ t.now = now ∧
          t.key k = { s.key k with lowCurrent := true, openRun := some now } ∧ KeysBut k s t ∧
          ChangesOnly [.keys] s t) ∧
      ((s.key k).openRun = some since → timeDiff now since < 2000 →
        ∃ t, exec (.openCurrentCrossing now k false) s = .next t ∧ t.now = now ∧
          t.key k = { s.key k with lowCurrent := false, openRun := none } ∧ KeysBut k s t ∧
          ChangesOnly [.keys] s t) ∧
      ((s.key k).openRun = some since → 2000 ≤ timeDiff now since →
        ∃ t, exec (.openLoadWarning now k) s = .next t ∧ t.now = now ∧
          (t.key k).openWarning = true ∧ (t.key k).stroke = (s.key k).stroke ∧
          (t.key k).holdCurrent = (s.key k).holdCurrent ∧ t.warnIndication = true ∧
          KeysBut k s t ∧ SlotsOnly [.notice] s t ∧ ChangesOnly [.keys, .link, .control] s t))

/-- An overcurrent that has lasted the deglitch time. A key's coil goes off and the key is FAULTED, every record of it is
removed, those that have not sounded are counted, and the hold current leaves the standing load. A pedal, MOVING or HOLDING
above duty 0, is FAULTED at duty 0 with no standing load; its events and its commanded position stay. -/
def Obligations.OvercurrentFaultsTheStage : Prop :=
  ∀ (s : State) (now since : Time) (k : Driver) (p : Pedal), (s.store.deglitch : Int) ≤ timeDiff now since →
    ((s.key k).stroke.driven = true → (s.key k).overRun = some since →
      ∃ t, exec (.overcurrentDetection now k) s = .next t ∧ t.now = now ∧
        t.key k =
          { s.key k with
            stroke := .faulted, holdCurrent := 0, overRun := none, openRun := none, lowCurrent := true } ∧
        KeysBut k s t ∧ t.notes = s.notes.filter (fun m => decide (m.driver ≠ k)) ∧
        (∀ d : Nat, (s.notes.filter fun m => decide (m.driver = k ∧ m.state ≠ .sounding)).length = d →
          (d = 0 → t.counters = s.counters) ∧
          (0 < d → t.counters.get .notesDroppedFault = min (s.counters.get .notesDroppedFault + d) 65535)) ∧
        CountersBut [.notesDroppedFault] s t ∧
        t.share.ownLoad = s.share.ownLoad - (s.key k).holdCurrent ∧ t.faultIndication = true ∧
        ChangesOnly [.mode, .notes, .keys, .share, .link, .control, .counters] s t) ∧
    ((s.pedal p).state.energized = true → (s.pedal p).base ≠ 0 → (s.pedal p).overRun = some since →
      ∃ t, exec (.pedalOvercurrent now p) s = .next t ∧ t.now = now ∧
        t.pedal p =
          { s.pedal p with state := .faulted, base := 0, applied := 0, load := 0, overRun := none } ∧
        (∀ q : Pedal, q ≠ p → t.pedal q = s.pedal q) ∧ t.share.ownLoad = s.share.ownLoad - (s.pedal p).load ∧
        t.faultIndication = true ∧ ChangesOnly [.mode, .pedals, .share, .link, .control] s t)

/-! ### The pedals -/

/-- The action event of a pedal's earliest event takes it from the queue and gives the pedal an action toward its position,
carried out in PLAY. The target duty is 0 for UP, p_half and p_down for the damper's HALF and DOWN, and p_shift for the
shift's HALF and DOWN. Where the machine keeps its state nothing but the pedal changes. -/
def Obligations.PedalActionEventCommandsThePedal : Prop :=
  ∀ (s : State) (now action : Time) (p : Pedal) (e : PedalEvent) (rest : List PedalEvent) (target : Nat),
    (s.pedal p).events = e :: rest → e.action = some action → reached now action = true →
    target = (match p, e.position with
      | _, .up => 0
      | .damper, .half => s.store.pHalf
      | .damper, .down => s.store.pDown
      | .shift, _ => s.store.pShift) →
    ∃ t, exec (.pedalActionEvent now p) s = .next t ∧ t.now = now ∧
      TakesAction s t now p e.position target rest (s.mode = .play) ∧
      (s.mode ≠ .play ∨ ¬ s.mayEnergize p ∨ (s.pedal p).headsFor target → ChangesOnly [.pedals] s t) ∧
      (∀ q : Pedal, q ≠ p → t.pedal q = s.pedal q) ∧ t.pedals.queue = s.pedals.queue ∧
      t.share.ownLoad = s.share.ownLoad + (t.pedal p).load - (s.pedal p).load ∧ AnnouncesLoad s t ∧
      SlotsOnly [.load] s t ∧ ChangesOnly [.pedals, .share, .link] s t

/-- A ramp step that is due sets the base duty on the line from the start duty to the target, truncated toward zero; the
last step ends the ramp at the target, HOLDING above duty 0 and RESTING at it. -/
def Obligations.RampStepMovesTheBaseDuty : Prop :=
  ∀ (s : State) (now : Time) (p : Pedal) (r : Ramp),
    (s.pedal p).state = .moving r → reached now (after r.start (1000 * (r.taken + 1))) = true →
    (r.taken + 1 < r.steps →
      ∃ t, exec (.rampStep now p) s = .next t ∧ t.now = now ∧
        (t.pedal p).state = .moving { r with taken := r.taken + 1 } ∧
        (t.pedal p).base =
          ((r.d0 : Int) + Int.tdiv (((r.target : Int) - r.d0) * (r.taken + 1 : Nat)) r.steps).toNat ∧
        (t.pedal p).applied = compensate s.store s.conv.vMeas (t.pedal p).base ∧
        (t.pedal p).events = (s.pedal p).events ∧ (t.pedal p).commanded = (s.pedal p).commanded ∧
        (∀ q : Pedal, q ≠ p → t.pedal q = s.pedal q) ∧ ChangesOnly [.pedals, .share, .link] s t) ∧
    (r.steps ≤ r.taken + 1 →
      ∃ t, exec (.rampStep now p) s = .next t ∧ t.now = now ∧ (t.pedal p).base = r.target ∧
        (t.pedal p).state = (if r.target = 0 then .resting else .holding) ∧
        (t.pedal p).load = ceilDiv (s.store.iFullPedal * r.target) 255 ∧
        t.share.ownLoad = s.share.ownLoad + ceilDiv (s.store.iFullPedal * r.target) 255 - (s.pedal p).load ∧
        (s.mode ≠ .winddown → t.mode = s.mode) ∧
        (∀ q : Pedal, q ≠ p → t.pedal q = s.pedal q) ∧ ChangesOnly [.mode, .pedals, .share, .link, .control] s t)

/-! ### Sharing the supply -/

/-- 500 ms after the last LOAD was queued, a LOAD with the own standing load is queued: into a free slot, over a queued
frame, or as the held value while the slot is SENDING. 1500 ms after a present peer was last heard, its entry becomes absent
with standing load 0 and no claim records. -/
def Obligations.ShareTimersActAtTheirTimes : Prop :=
  ∀ (s : State) (now : Time) (m : LoadMark) (peer : StationNo),
    (s.mode.active = true → s.share.lastLoad = some m → 500000 ≤ timeDiff now m.time →
      ∃ t, exec (.loadRefresh now) s = .next t ∧ t.now = now ∧
        t.share.lastLoad = some { value := s.share.ownLoad, time := now } ∧ t.share.ownLoad = s.share.ownLoad ∧
        ((s.slot .load).state = .sending → t.share.heldLoad = some s.share.ownLoad ∧ t.link = s.link) ∧
        ((s.slot .load).state = .queued →
          t.slot .load = { s.slot .load with frame := some (.load (fieldOf 12 s.share.ownLoad)) }) ∧
        ((s.slot .load).state.free = true →
          t.slot .load =
            { state := .queued, frame := some (.load (fieldOf 12 s.share.ownLoad)), queuedAt := now, attempts := 0,
              cancel := none }) ∧
        AnnouncesLoad s t ∧ SlotsOnly [.load] s t ∧ ChangesOnly [.share, .link] s t) ∧
    ((s.peer peer).present = true → 1500000 ≤ timeDiff now (s.peer peer).lastHeard →
      ∃ t, exec (.peerAbsent now peer) s = .next t ∧ t.now = now ∧
        (t.peer peer).present = false ∧ (t.peer peer).load = 0 ∧ (t.peer peer).claims = [] ∧
        (∀ n : StationNo, n ≠ peer → t.peer n = s.peer n) ∧
        t.share = { s.share with peers := t.share.peers } ∧ ChangesOnly [.share] s t)

/-- A LOAD frame of a peer sets the peer's standing load and hears the peer, and the own claims are then rechecked, the slot
queued first first. A recheck of a claim whose amount is above the headroom over its window cancels a QUEUED slot and queues
it again, fitted, with the same tag; on a SENDING slot it leaves a pending cancellation. The echo of the station's own LOAD
changes no state at its handling. -/
def Obligations.LoadFrameSetsThePeersLoad : Prop :=
  ∀ (s : State) (now : Time) (e : Entry) (value : BitVec 12) (c : ClaimId) (x : Claim) (fitted : State),
    (s.toHandle = some e → e.payload = .load value →
      (e.own = false → e.sender ≠ s.number →
        (∃ t, exec (.loadFrame now) s = .next t ∧ t.now = now ∧
          (t.peer e.sender).present = true ∧ (t.peer e.sender).load = value.toNat ∧
          (t.peer e.sender).lastHeard = now ∧
          (∀ n : StationNo, n ≠ e.sender →
            (t.peer n).present = (s.peer n).present ∧ (t.peer n).load = (s.peer n).load ∧
              (t.peer n).lastHeard = (s.peer n).lastHeard) ∧
          t.link.handling = some { entry := e, done := true } ∧
          ChangesOnly [.shade, .notes, .keys, .share, .link, .control, .counters] s t) ∧
        exec (.loadFrame now) s =
          .next (State.notify s .drop
            ((s.setNow now).markHandled.setPeer e.sender
              { s.peer e.sender with load := value.toNat, present := true, lastHeard := now }).recheck)) ∧
      (e.own = true →
        ∃ t, exec (.loadFrame now) s = .next t ∧ t.now = now ∧
          t.link = { s.link with handling := some { entry := e, done := true } } ∧ ChangesOnly [.link] s t)) ∧
    (s.recheck =
      if earlier (s.slot (.claim .b)).queuedAt (s.slot (.claim .a)).queuedAt then (s.recheckSlot .b).recheckSlot .a
      else (s.recheckSlot .a).recheckSlot .b) ∧
    ((s.claimSlot c).claim = some x →
      (x.amount ≤ s.headroom x.windowStart x.windowEnd (some c) ∨
          ((s.slot (.claim c)).state ≠ .queued ∧ (s.slot (.claim c)).state ≠ .sending) →
        s.recheckSlot c = s.purge) ∧
      (s.headroom x.windowStart x.windowEnd (some c) < x.amount →
        ((s.slot (.claim c)).state = .queued → fitted = (s.purge.moveSlot (.claim c) .cancelled).fit c →
          fitted.settled →
          (s.recheckSlot c).slot (.claim c) =
            { state := .queued, frame := none, queuedAt := s.now, attempts := 0, cancel := none } ∧
          (s.recheckSlot c).claimSlot c = fitted.claimSlot c ∧ (s.recheckSlot c).notes = fitted.notes ∧
          (s.recheckSlot c).counters = fitted.counters ∧
          ((s.recheckSlot c).claimSlot c).claim.map Claim.tag = some x.tag) ∧
        ((s.slot (.claim c)).state = .sending → (s.slot (.claim c)).cancel = none →
          (s.recheckSlot c).slot (.claim c) = { s.slot (.claim c) with cancel := some .refit } ∧
          (s.recheckSlot c).claimSlot c = s.claimSlot c ∧ (s.recheckSlot c).notes = s.notes) ∧
        ((s.slot (.claim c)).state = .sending → (s.slot (.claim c)).cancel ≠ none →
          s.recheckSlot c = s.purge)))

/-- A CLAIM frame of a peer is recorded from its arrival and hears the peer: added after the unexpired records while fewer
than 4 are held, and merged into the one with the latest end, the last added among equals, when 4 are. The own claims are
then rechecked (`LoadFrameSetsThePeersLoad` says what a recheck does); with no claim slot QUEUED or SENDING there is nothing
to recheck. The station's own echo is recorded in the same way under its own number, starts no recheck, and clears the
departed claim of its tag. -/
def Obligations.ClaimFrameIsRecorded : Prop :=
  ∀ (s : State) (now : Time) (e : Entry) (tag : BitVec 4) (overdrawn late : Bool) (amount : BitVec 16)
    (offset duration : Byte) (r old : ClaimRecord) (j : Nat) (held live : List ClaimRecord),
    s.toHandle = some e → e.payload = .claim tag overdrawn late amount offset duration →
    r = { tag, amount := amount.toNat, start := after e.arrival (1000 * offset.toNat)
          stop := after (after e.arrival (1000 * offset.toNat)) (1000 * duration.toNat) } →
    held = (if e.own = true then s.share.ownClaims else (s.peer e.sender).claims) → live = liveClaims now held →
    (live.length < 4 → recordClaim now r held = live ++ [r]) ∧
    (live.length = 4 → live[j]? = some old →
      (∀ (i : Nat) (other : ClaimRecord), live[i]? = some other →
        (i < j → earlier old.stop other.stop = false) ∧ (j < i → earlier other.stop old.stop = true)) →
      recordClaim now r held =
        live.set j { tag, amount := old.amount + amount.toNat, start := earlierOf old.start r.start
                     stop := laterOf old.stop r.stop }) ∧
    (e.own = false → e.sender ≠ s.number → (∀ c : ClaimId, (s.slot (.claim c)).state.free = true) →
      ∃ t, exec (.claimFrame now) s = .next t ∧ t.now = now ∧
        (t.peer e.sender).present = true ∧ (t.peer e.sender).lastHeard = now ∧
        (t.peer e.sender).load = (s.peer e.sender).load ∧
        liveClaims now (t.peer e.sender).claims = liveClaims now (recordClaim now r held) ∧
        (∀ n : StationNo, n ≠ e.sender → liveClaims now (t.peer n).claims = liveClaims now (s.peer n).claims) ∧
        t.link = { s.link with handling := some { entry := e, done := true } } ∧ ChangesOnly [.share, .link] s t) ∧
    (e.own = false → e.sender ≠ s.number →
      exec (.claimFrame now) s =
        .next (State.notify s .drop
          ((s.setNow now).markHandled.setPeer e.sender
            { s.peer e.sender with
              claims := recordClaim now r held, present := true, lastHeard := now }).recheck)) ∧
    (e.own = true →
      ∃ t, exec (.claimFrame now) s = .next t ∧ t.now = now ∧
        t.share =
          { s.share with
            ownClaims := recordClaim now r held
            departed := s.share.departed.filter fun d => decide (d.tag ≠ tag) } ∧
        t.link = { s.link with handling := some { entry := e, done := true } } ∧ ChangesOnly [.share, .link] s t)

/-! ### Protection and measurement -/

/-- A sample that falls due while the converter is idle begins its conversion, of 10 µs on the same source and of 60 µs
after a change; the schedule goes on by half a frame. While a conversion is in flight it waits, in place of an older sample
of its source. -/
def Obligations.DueSampleBeginsOrWaits : Prop :=
  ∀ (s : State) (now : Time) (x : Schedule) (source : Source),
    s.mode.active = true → s.conv.schedule = some x → reached now x.due = true →
    source = (if x.phase.val % 2 = 0 then .supply else .cluster ([.a, .b, .c, .p].getD (x.phase.val / 2) .p)) →
    ∃ t, exec (.sampleDue now) s = .next t ∧ t.now = now ∧
      t.conv.schedule = some { due := after x.due 500, phase := x.phase + 1 } ∧
      (s.conv.inFlight = none →
        t.conv.inFlight =
          some { source, probe := none, ends := after now (if s.conv.lastSource = some source then 10 else 60) } ∧
        t.conv.lastSource = some source ∧ t.conv.waiting = s.conv.waiting) ∧
      (s.conv.inFlight ≠ none →
        t.conv.inFlight = s.conv.inFlight ∧
        t.conv.waiting = (s.conv.waiting.filter fun y => decide (y.source ≠ source)) ++ [{ source, due := x.due }]) ∧
      t.conv.vMeas = s.conv.vMeas ∧ t.conv.temps = s.conv.temps ∧ ChangesOnly [.conv] s t

/-- A completed supply sample becomes V_meas and moves each supply condition by its bad and good sides: a first sample on the
other side begins a run of one, a second in a row turns the condition over, and any other sample ends the run. A sample that
neither silences the station nor moves hold-off recomputes the applied duty of each key in HOLD and of each pedal MOVING or
HOLDING, and changes no other key or pedal, no hold current and no standing load. A shutdown condition that becomes PRESENT
records a supply warning in automatic mode and a supply fault in latched mode, and such a fault makes the station SILENCED
with no record left. The converter then begins the waiting probe, or else the sample that has waited longest, or is idle. -/
def Obligations.SupplySampleMovesTheConditions : Prop :=
  ∀ (s : State) (now : Time) (value : BitVec 10) (x : Conversion) (m : Nat),
    s.conv.inFlight = some x → x.source = .supply → x.probe = none → reached now x.ends = true → m = value.toNat →
    ∃ t, exec (.supplySample now value) s = .next t ∧ t.now = now ∧ t.conv.vMeas = m ∧
      (∀ (c d : Condition) (bad good against : Bool),
        (c = s.prot.uv ∧ d = t.prot.uv ∧ bad = decide (m < s.store.vUv) ∧ good = decide (s.store.vUv + 4 ≤ m)) ∨
        (c = s.prot.ovw ∧ d = t.prot.ovw ∧ bad = decide (s.store.vOvw < m) ∧ good = decide (m + 4 ≤ s.store.vOvw)) ∨
        (c = s.prot.ovs ∧ d = t.prot.ovs ∧ bad = decide (s.store.vOvs < m) ∧ good = decide (m + 4 ≤ s.store.vOvs)) →
        against = (if c.present then good else bad) →
        d =
          (if against = false then { present := c.present, run := false }
           else if c.run then { present := !c.present, run := false }
           else { present := c.present, run := true })) ∧
      (∀ uv ovs : Bool, uv = (t.prot.uv.present && !s.prot.uv.present) → ovs = (t.prot.ovs.present && !s.prot.ovs.present) →
        t.prot.uvWarning = (s.prot.uvWarning || (uv && !s.store.uvLatched)) ∧
        t.prot.ovsWarning = (s.prot.ovsWarning || (ovs && !s.store.ovsLatched)) ∧
        t.prot.uvFault = (s.prot.uvFault || (uv && s.store.uvLatched)) ∧
        t.prot.ovsFault = (s.prot.ovsFault || (ovs && s.store.ovsLatched)) ∧
        ((uv = true ∧ s.store.uvLatched = true) ∨ (ovs = true ∧ s.store.ovsLatched = true) →
          t.mode = .silenced ∧
          (s.mode ≠ .silenced → t.notes = [] ∧
            (∀ k : Driver, (t.key k).stroke = .rest ∨ (t.key k).stroke = .faulted) ∧
            (∀ p : Pedal, (t.pedal p).state = .resting ∨ (t.pedal p).state = .faulted) ∧
            (∀ c : ClaimId, (s.slot (.claim c)).state = .queued → (t.slot (.claim c)).state = .cancelled)))) ∧
      (∀ j : ProbeJob, s.conv.waitingProbe = some j →
        BeginsConversion s t now j.source (some j.probe) ∧ t.conv.waitingProbe = none ∧
        t.conv.waiting = s.conv.waiting) ∧
      (∀ (y : DueSample) (rest : List DueSample), s.conv.waitingProbe = none → s.conv.waiting = y :: rest →
        BeginsConversion s t now y.source none ∧ t.conv.waitingProbe = none ∧ t.conv.waiting = rest) ∧
      (s.conv.waitingProbe = none → s.conv.waiting = [] → t.conv = { s.conv with vMeas := m, inFlight := none }) ∧
      (t.holdOff = s.holdOff → t.prot.uvFault = s.prot.uvFault → t.prot.ovsFault = s.prot.ovsFault →
        (t.mode = .silenced → s.mode = .silenced) →
        (∀ (k : Driver) (base applied : Nat), (s.key k).stroke = .hold base applied →
          t.key k =
            { s.key k with
              stroke := .hold base (compensate s.store m base)
              openRun := if compensate s.store m base = 0 then none else (s.key k).openRun }) ∧
        (∀ k : Driver, (∀ base applied : Nat, (s.key k).stroke ≠ .hold base applied) → t.key k = s.key k) ∧
        (∀ p : Pedal,
          ((s.pedal p).state.energized = true →
            t.pedal p = { s.pedal p with applied := compensate s.store m (s.pedal p).base }) ∧
          ((s.pedal p).state.energized = false → t.pedal p = s.pedal p)) ∧
        t.share = s.share ∧ t.notes = s.notes) ∧
      ChangesOnly [.mode, .notes, .keys, .pedals, .share, .prot, .conv, .link, .control] s t

/-- The second bad sample of undervoltage in automatic mode begins hold-off: every driven key goes to RETURN, the SOUNDING
records leave uncounted, the others stay, and the pedals rest with their commanded positions kept. The second good sample ends
it, and in PLAY each pedal not FAULTED and not in shutdown ramps to its commanded position when that is not UP. -/
def Obligations.HoldOffBeginsAndEnds : Prop :=
  ∀ (s : State) (now : Time) (value : BitVec 10) (x : Conversion),
    s.mode = .play → s.conv.inFlight = some x → x.source = .supply → x.probe = none →
    reached now x.ends = true → s.store.uvLatched = false →
    (s.Safe → s.holdOff = false →
      s.prot.uv = { present := false, run := true } → value.toNat < s.store.vUv → value.toNat ≤ s.store.vOvs →
      ∃ t, exec (.supplySample now value) s = .next t ∧ t.now = now ∧ t.holdOff = true ∧ t.prot.uvWarning = true ∧
        t.mode = .play ∧
        (∀ k : Driver, (s.key k).stroke.driven = true → (t.key k).stroke = .returning now) ∧
        (∀ k : Driver, (s.key k).stroke.driven = false → (t.key k).stroke = (s.key k).stroke) ∧
        t.notes = s.notes.filter (fun n => decide (n.state ≠ .sounding)) ∧
        (∀ p : Pedal, (t.pedal p).state = .resting ∨ (t.pedal p).state = .faulted) ∧
        (∀ p : Pedal, (t.pedal p).commanded = (s.pedal p).commanded) ∧ t.counters = s.counters) ∧
    (s.prot.uv = { present := true, run := true } → s.prot.ovs.present = false → s.store.vUv + 4 ≤ value.toNat →
      value.toNat ≤ s.store.vOvs →
      ∃ t, exec (.supplySample now value) s = .next t ∧ t.now = now ∧ t.holdOff = false ∧ t.mode = .play ∧
        (∀ p : Pedal, (t.pedal p).commanded = (s.pedal p).commanded ∧
          ((s.pedal p).commanded = .up ∨ (s.pedal p).state = .faulted ∨ s.isShut .p = true →
            (t.pedal p).state = (s.pedal p).state) ∧
          (∀ target : Nat, (s.pedal p).commanded ≠ .up → (s.pedal p).state = .resting → (s.pedal p).base = 0 →
            s.isShut .p = false → target = s.store.pedalTarget p (s.pedal p).commanded → target ≠ 0 →
            (0 < s.store.tRamp →
              (t.pedal p).state = .moving { d0 := 0, target, start := now, steps := s.store.tRamp, taken := 0 }) ∧
            (s.store.tRamp = 0 → (t.pedal p).state = .holding ∧ (t.pedal p).base = target))) ∧
        (∀ k : Driver, (t.key k).stroke.driven = (s.key k).stroke.driven) ∧
        t.notes = s.notes ∧ t.counters = s.counters)

/-- A temperature sample indicates a level by the cluster's present one: entry at 115, 135 and 160 °C, downward below 105 °C
from WARM and below 125 °C from HOT. Two in a row that indicate levels on the same side of a cluster's level move it to the
nearer of the two, and the held temperature is the sample's; a cluster at SHUTDOWN is not moved. A crossing of WARM below
SHUTDOWN gives each key of the cluster in HOLD its other base duty, with its applied duty and hold current; a sample that
crosses neither WARM nor into SHUTDOWN changes no key, pedal, record or standing load. The converter then begins the waiting
probe, or else the sample that has waited longest, or is idle. A rise to SHUTDOWN in cluster mode turns the driven keys of
cluster A, B or C to RETURN and removes the records of its keys, or rests the pedals at cluster P; in global mode it makes
the station SILENCED. -/
def Obligations.TemperatureSampleMovesTheLevel : Prop :=
  ∀ (s : State) (now : Time) (value : Int) (x : Conversion) (cl : Cluster) (u v : Thermal),
    s.conv.inFlight = some x → x.source = .cluster cl → x.probe = none → reached now x.ends = true →
    s.prot.clusters.get cl = u →
    ∃ t, exec (.temperatureSample now value) s = .next t ∧ t.now = now ∧ t.conv.temps.get cl = value ∧
      (t.prot.clusters.get cl = v →
        (u.level = .shutdown → v = u) ∧
        (∀ i j : Level, u.level ≠ .shutdown → i = indicated u.level value → u.previous = some j →
          (u.level.rank < i.rank → u.level.rank < j.rank →
            v.previous = none ∧ v.level.rank = min i.rank j.rank) ∧
          (i.rank < u.level.rank → j.rank < u.level.rank →
            v.previous = none ∧ v.level.rank = max i.rank j.rank) ∧
          (¬ (u.level.rank < i.rank ∧ u.level.rank < j.rank) → ¬ (i.rank < u.level.rank ∧ j.rank < u.level.rank) →
            v = { level := u.level, previous := some i })) ∧
        (u.level ≠ .shutdown → u.previous = none → v = { level := u.level, previous := some (indicated u.level value) }) ∧
        (u.level ≠ .shutdown → v.level = .shutdown →
          t.faultIndication = true ∧
          (s.store.thermalGlobal = false → cl ≠ .p →
            (∀ k : Driver, clusterOf k = cl →
              ((s.key k).stroke.driven = true → (t.key k).stroke = .returning now) ∧
              ((s.key k).stroke.driven = false → (t.key k).stroke = (s.key k).stroke)) ∧
            (∀ k : Driver, clusterOf k ≠ cl → t.key k = s.key k) ∧
            t.notes = s.notes.filter (fun n => decide (clusterOf n.driver ≠ cl)) ∧ t.pedals = s.pedals) ∧
          (s.store.thermalGlobal = false → cl = .p →
            (∀ p : Pedal, (t.pedal p).state = .resting ∨ (t.pedal p).state = .faulted) ∧
            (∀ p : Pedal, (t.pedal p).commanded = (s.pedal p).commanded) ∧ t.keys = s.keys ∧ t.notes = s.notes) ∧
          (s.store.thermalGlobal = true → t.mode = .silenced ∧ (s.mode ≠ .silenced → t.notes = [])))) ∧
      (∀ l i : Level, l ≠ .shutdown → indicated l value = i →
        (l = .normal → i = if 160 ≤ value then .shutdown else if 135 ≤ value then .hot else
          if 115 ≤ value then .warm else .normal) ∧
        (l = .warm → i = if 160 ≤ value then .shutdown else if 135 ≤ value then .hot else
          if 105 ≤ value then .warm else .normal) ∧
        (l = .hot → i = if 160 ≤ value then .shutdown else if 125 ≤ value then .hot else
          if 105 ≤ value then .warm else .normal)) ∧
      (t.prot.clusters.get cl = v → u.level = .shutdown ∨ v.level ≠ .shutdown →
        t.notes = s.notes ∧ t.pedals = s.pedals ∧ t.counters = s.counters ∧ t.mode = s.mode ∧
        (decide (u.level = .normal) = decide (v.level = .normal) → t.keys = s.keys ∧ t.share = s.share) ∧
        (decide (u.level = .normal) ≠ decide (v.level = .normal) →
          (∀ k : Driver, clusterOf k ≠ cl → t.key k = s.key k) ∧
          (∀ k : Driver, clusterOf k = cl →
            (∀ base applied : Nat, (s.key k).stroke ≠ .hold base applied) → t.key k = s.key k) ∧
          (∀ (k : Driver) (base applied duty : Nat), clusterOf k = cl → (s.key k).stroke = .hold base applied →
            duty = (if v.level = .normal then (s.store.key k).pHold else (s.store.key k).pCool) →
            t.key k =
              { s.key k with
                stroke := .hold duty (compensate s.store s.conv.vMeas duty)
                holdCurrent := ceilDiv ((s.store.key k).iFull * duty) 255
                openRun := if compensate s.store s.conv.vMeas duty = 0 then none else (s.key k).openRun }) ∧
          (s.loadBalanced → t.loadBalanced) ∧ AnnouncesLoad s t)) ∧
      ((∀ j : ProbeJob, s.conv.waitingProbe = some j →
          BeginsConversion s t now j.source (some j.probe) ∧ t.conv.waitingProbe = none ∧
          t.conv.waiting = s.conv.waiting) ∧
        (∀ (y : DueSample) (rest : List DueSample), s.conv.waitingProbe = none → s.conv.waiting = y :: rest →
          BeginsConversion s t now y.source none ∧ t.conv.waitingProbe = none ∧ t.conv.waiting = rest) ∧
        (s.conv.waitingProbe = none → s.conv.waiting = [] → t.conv.inFlight = none)) ∧
      t.conv.vMeas = s.conv.vMeas ∧ t.conv.schedule = s.conv.schedule ∧
      (∀ other : Cluster, other ≠ cl →
        t.prot.clusters.get other = s.prot.clusters.get other ∧ t.conv.temps.get other = s.conv.temps.get other) ∧
      ChangesOnly [.mode, .notes, .keys, .pedals, .share, .prot, .conv, .link, .control, .counters] s t

/-- A probe conversion that completes answers its probe with the value sensed, 0 for a stage whose coil is off, by the state
of the REPLY slot; no held value changes. The converter then begins the sample that has waited longest, or else the waiting
probe, or is idle. -/
def Obligations.ProbeConversionAnswers : Prop :=
  ∀ (s : State) (now : Time) (value : Int) (x : Conversion) (id : ProbeId),
    s.conv.inFlight = some x → x.probe = some id → reached now x.ends = true → id.item ≠ 3 →
    (s.sensed x.source value =
      (match x.source with
       | .supply | .cluster _ => value
       | .stage (.key k) => if (s.key k).stroke.driven = true then value else 0
       | .stage (.pedal p) => if (s.pedal p).state.energized = true then value else 0)) ∧
    ∃ t, exec (.probeConversion now value) s = .next t ∧ t.now = now ∧
      AnswersProbe s t id (some (s.sensed x.source value)) (s.sensed x.source value) ∧
      (∀ (d : DueSample) (rest : List DueSample), s.conv.waiting = d :: rest →
        BeginsConversion s t now d.source none ∧ t.conv.waiting = rest ∧ t.conv.waitingProbe = s.conv.waitingProbe) ∧
      (∀ j : ProbeJob, s.conv.waiting = [] → s.conv.waitingProbe = some j →
        BeginsConversion s t now j.source (some j.probe) ∧ t.conv.waiting = [] ∧ t.conv.waitingProbe = none) ∧
      (s.conv.waiting = [] → s.conv.waitingProbe = none → t.conv = { s.conv with inFlight := none }) ∧
      t.conv.schedule = s.conv.schedule ∧ t.conv.vMeas = s.conv.vMeas ∧ t.conv.temps = s.conv.temps ∧
      SlotsOnly [.reply] s t ∧ ChangesOnly [.conv, .link, .control] s t

/-! ### Station control -/

/-- PLAY in STANDBY or WINDDOWN enters PLAY: every note track not in CLOSED is orphaned, each generator re-announces a segment
at the generator line from its value there, or from the default with the parameters read, which is queued as a SEGMENT frame,
and a pedal source queues a PEDAL frame of each of its positions. Elsewhere PLAY is ignored. -/
def Obligations.PlayEntersPlay : Prop :=
  ∀ (s : State) (now : Time) (e : Entry) (target argument : Byte),
    s.toHandle = some e → e.payload = .transport 1 target argument → s.addressed target = true →
    (s.mode = .standby ∨ s.mode = .winddown →
      ∃ t, exec (.play now) s = .next t ∧ t.now = now ∧ t.mode = .play ∧
        (∀ i : Fin 24, ∀ k : Driver,
          s.store.function i = .note k →
            t.tracks[i] =
              { s.tracks[i] with orphan := s.tracks[i].orphan || decide (s.tracks[i].decode ≠ .closed) }) ∧
        (∀ (h : Half) (g : Segment), s.generates h = true →
          (∀ old : Segment, (s.half h).generator = some old →
            g = { start := s.shade.generatorLine, s0 := old.value s.shade.generatorLine, target := old.target,
                  rate := old.rate, accent := old.accent }) →
          ((s.half h).generator = none →
            g = { start := s.shade.generatorLine, s0 := 16 * (s.store.half h).default
                  target := (s.shadeParams h).target, rate := (s.shadeParams h).rate
                  accent := (s.shadeParams h).accent }) →
          MakesSegment s t h g) ∧
        (∀ h : Half, s.generates h = false → t.half h = s.half h ∧ t.slot (.shade h) = s.slot (.shade h)) ∧
        t.shade.generatorLine = s.shade.generatorLine ∧
        (s.isPedalSource = true → t.pedals.lastDamper = s.damperReading ∧ t.pedals.lastShift = s.shiftReading ∧
          MakesMoves s t
            [{ pedal := .damper, position := s.damperReading, line := s.shade.generatorLine },
              { pedal := .shift, position := s.shiftReading, line := s.shade.generatorLine }]) ∧
        (s.isPedalSource = false → t.pedals = s.pedals ∧ t.slot .pedal = s.slot .pedal) ∧
        t.noticeStands t.conditionByte ∧ t.link.handling = some { entry := e, done := true } ∧
        ChangesOnly [.mode, .tracks, .shade, .pedals, .share, .link, .control, .counters] s t) ∧
    (s.mode = .play ∨ s.mode = .silenced →
      ∃ t, exec (.play now) s = .next t ∧ t.now = now ∧
        t.link = { s.link with handling := some { entry := e, done := true } } ∧ ChangesOnly [.link] s t)

/-- STOP takes PLAY to WINDDOWN, or on to STANDBY when the station is quiescent, every key being in REST or FAULTED, both
pedals RESTING or FAULTED and neither claim slot QUEUED or SENDING. The WAITING and ARMED records leave uncounted. A SOUNDING
record whose release time is absent or later than now gets release time now: with its key in HOLD the key goes to RETURN and
the record leaves, with its key in STRIKE the pulse goes on and the record stays. Each pedal takes an UP action, its queue
kept. A QUEUED claim slot is CANCELLED, and a SENDING one has its cancellation pending. -/
def Obligations.StopWindsDown : Prop :=
  ∀ (s : State) (now : Time) (e : Entry) (target argument : Byte),
    s.settled → s.toHandle = some e → e.payload = .transport 2 target argument → s.addressed target = true →
    s.mode = .play →
    ∃ t, exec (.stop now) s = .next t ∧ t.now = now ∧
      t.mode = (if t.quiescent then .standby else .winddown) ∧
      (t.quiescent = true ↔
        (∀ k : Driver, (t.key k).stroke = .rest ∨ (t.key k).stroke = .faulted) ∧
        (∀ p : Pedal, (t.pedal p).state = .resting ∨ (t.pedal p).state = .faulted) ∧
        ∀ c : ClaimId, (t.slot (.claim c)).state ≠ .queued ∧ (t.slot (.claim c)).state ≠ .sending) ∧
      (∀ n ∈ t.notes, n.state = .sounding ∧ n.releaseTime.isSome = true ∧
        ∃ m ∈ s.notes, m.same n = true ∧ m.state = .sounding ∧ m.strike = n.strike) ∧
      (s.notes.length ≤ 40 →
        (∀ (k : Driver) (base applied : Nat), (s.key k).stroke = .hold base applied →
          (∃ m ∈ s.notes, m.driver = k ∧ m.state = .sounding ∧ m.released = false ∧
            ∀ r : Time, m.releaseTime = some r → earlier now r = true) →
          t.key k =
            { s.key k with
              stroke := .returning now, holdCurrent := 0, overRun := none, openRun := none, lowCurrent := true } ∧
          ∀ m ∈ t.notes, m.driver ≠ k) ∧
        (∀ k : Driver,
          (∀ base applied : Nat, (s.key k).stroke ≠ .hold base applied) ∨
              (∀ m ∈ s.notes, m.driver = k → m.state = .sounding →
                ∃ r : Time, m.releaseTime = some r ∧ earlier now r = false) →
          t.key k = s.key k ∧
          ∀ m ∈ s.notes, m.driver = k → m.state = .sounding → ∀ r : Time, m.releaseTime = some r →
            earlier now r = false → (∀ m' ∈ s.notes, m'.same m = true → m' = m) → m ∈ t.notes) ∧
        (∀ m ∈ s.notes, m.state = .sounding → (∀ m' ∈ s.notes, m'.same m = true → m' = m) →
          (∀ r : Time, m.releaseTime = some r → earlier now r = true) →
          (∀ base applied : Nat, (s.key m.driver).stroke ≠ .hold base applied) →
          { m with releaseTime := some now, released := true } ∈ t.notes)) ∧
      (∀ p : Pedal, TakesAction s t now p .up 0 (s.pedal p).events True) ∧
      (∀ c : ClaimId,
        ((s.slot (.claim c)).state = .queued →
          t.slot (.claim c) = { s.slot (.claim c) with state := .cancelled, cancel := none }) ∧
        ((s.slot (.claim c)).state = .sending →
          t.slot (.claim c) = { s.slot (.claim c) with cancel := some .final }) ∧
        ((s.slot (.claim c)).state ≠ .queued → (s.slot (.claim c)).state ≠ .sending →
          t.slot (.claim c) = s.slot (.claim c))) ∧
      t.noticeStands t.conditionByte ∧ t.counters = s.counters ∧
      ChangesOnly [.mode, .notes, .keys, .pedals, .share, .link, .control] s t

/-- A CLEAR takes FAULTED keys to REST, clears the open-load warnings, the HALT record and the supply faults and warnings
whose condition is ABSENT, ends a thermal shutdown below 150 °C at the level its temperature gives, and takes a SILENCED
station without a station-level cause to STANDBY. -/
def Obligations.ClearEndsWhatHasNoCause : Prop :=
  ∀ (s : State) (now : Time) (e : Entry) (target argument : Byte),
    s.toHandle = some e → e.payload = .transport 3 target argument → s.addressed target = true →
    s.mode.active = true →
    ∃ t, exec (.clear now) s = .next t ∧ t.now = now ∧
      (∀ k : Driver, (t.key k).openWarning = false ∧ (t.key k).stroke ≠ .faulted ∧
        ((s.key k).stroke = .faulted → (t.key k).stroke = .rest)) ∧
      (∀ p : Pedal, (t.pedal p).state ≠ .faulted) ∧
      t.prot.halt = false ∧ t.prot.uvFault = (s.prot.uvFault && s.prot.uv.present) ∧
      t.prot.ovsFault = (s.prot.ovsFault && s.prot.ovs.present) ∧
      t.prot.uvWarning = (s.prot.uvWarning && s.prot.uv.present) ∧
      t.prot.ovsWarning = (s.prot.ovsWarning && s.prot.ovs.present) ∧
      (∀ cl : Cluster, t.prot.clusters.get cl =
        (if (s.prot.clusters.get cl).level = .shutdown ∧ s.conv.temps.get cl < 150 then
           { level :=
               if 125 ≤ s.conv.temps.get cl then .hot else if 105 ≤ s.conv.temps.get cl then .warm else .normal
             previous := none }
         else s.prot.clusters.get cl)) ∧
      t.mode = (if s.mode = .silenced ∧ t.stationCause = false then .standby else s.mode) ∧
      ChangesOnly [.mode, .keys, .pedals, .share, .prot, .link, .control] s t

/-- TRIM sets the station trim to the argument, read as a signed number and clamped to −64..+63, in every mode in which it is
handled, and changes no other part but the handling in progress. -/
def Obligations.TrimIsClamped : Prop :=
  ∀ (s : State) (now : Time) (e : Entry) (target argument : Byte),
    s.toHandle = some e → e.payload = .transport 4 target argument → s.addressed target = true →
    s.mode.active = true →
    ∃ t, exec (.trim now) s = .next t ∧ t.now = now ∧
      t.shade = { s.shade with trim := max (-64) (min argument.toInt 63) } ∧
      t.link = { s.link with handling := some { entry := e, done := true } } ∧ ChangesOnly [.shade, .link] s t

/-- HALT enters the latched fault set and makes the station SILENCED: the list is empty, every key is in REST or FAULTED with
no hold current, every pedal is RESTING or FAULTED with no load, and no counter changes. -/
def Obligations.HaltSilencesTheStation : Prop :=
  ∀ (s : State) (now : Time) (e : Entry) (target : Byte),
    s.toHandle = some e → e.payload = .halt target → s.addressed target = true → s.mode.active = true →
    s.mode ≠ .silenced →
    ∃ t, exec (.halt now) s = .next t ∧ t.now = now ∧ t.mode = .silenced ∧ t.prot = { s.prot with halt := true } ∧
      t.notes = [] ∧
      (∀ k : Driver,
        (t.key k).openWarning = (s.key k).openWarning ∧
        ((s.key k).stroke = .faulted → t.key k = s.key k) ∧
        ((s.key k).stroke ≠ .faulted →
          (t.key k).stroke = .rest ∧ (t.key k).holdCurrent = 0 ∧ (t.key k).overRun = none ∧ (t.key k).openRun = none)) ∧
      (∀ p : Pedal, ((s.pedal p).state = .faulted → t.pedal p = s.pedal p) ∧
        ((s.pedal p).state ≠ .faulted →
          (t.pedal p).state = .resting ∧ (t.pedal p).base = 0 ∧ (t.pedal p).load = 0)) ∧
      t.noticeStands t.conditionByte ∧
      ChangesOnly [.mode, .notes, .keys, .pedals, .share, .prot, .link, .control] s t

/-- A PROBE of the station for an item that needs no conversion, or a sense item whose argument is out of range, is ready at
once and answered by the state of the REPLY slot: with the item's value, the headroom over the next millisecond for item 3, 0
for the latter. A sense item with an argument in range begins its conversion when the converter is idle, and otherwise becomes
the waiting probe conversion, in place of any that waits. -/
def Obligations.ProbeIsAnsweredOrConverted : Prop :=
  ∀ (s : State) (now : Time) (e : Entry) (target : BitVec 4) (item argument : Byte) (value : Int) (id : ProbeId),
    s.toHandle = some e → e.payload = .probe target item argument → target = s.number →
    s.mode.active = true ∨ s.mode = .unvoiced → id = { requester := e.sender, item, argument } →
    (∀ (n : Nat) (i : Counter), (n, i) ∈
        ([(16, .rejectedStrobes), (17, .mergedLines), (18, .notesDroppedListFull), (19, .notesDroppedFault),
          (20, .lateStrikes), (21, .repetitionDelays), (22, .forcedReleases), (23, .projectedShades),
          (24, .misalignedFrames), (25, .shadeFramesShed), (26, .shadeSegmentsEvicted), (27, .pedalEventsShed),
          (28, .overdrawnClaims), (29, .unannouncedStrikes), (30, .lateClaims), (31, .intakeLost), (32, .objections)] :
          List (Nat × Counter)) →
      s.itemValue n = s.counters.get i) ∧
    (s.itemValue 0 = s.mode.code ∧ s.itemValue 1 = s.scan.line.toNat ∧ s.itemValue 2 = s.notes.length ∧
      s.itemValue 3 = s.headroom s.now (after s.now 1000) none ∧ s.itemValue 4 = s.share.ownLoad ∧
      ∀ n : Nat, 4 < n → n < 16 ∨ 32 < n → s.itemValue n = 0) ∧
    (senseSource 5 argument.toNat = some .supply ∧
      (∀ cl : Cluster, (argument.toNat, cl) ∈ ([(0, .a), (1, .b), (2, .c), (3, .p)] : List (Nat × Cluster)) →
        senseSource 6 argument.toNat = some (.cluster cl)) ∧
      (4 ≤ argument.toNat → senseSource 6 argument.toNat = none) ∧
      (∀ k : Driver, argument.toNat = k.val → senseSource 7 argument.toNat = some (.stage (.key k))) ∧
      (argument.toNat = 12 → senseSource 7 argument.toNat = some (.stage (.pedal .damper))) ∧
      (argument.toNat = 13 → senseSource 7 argument.toNat = some (.stage (.pedal .shift))) ∧
      (14 ≤ argument.toNat → senseSource 7 argument.toNat = none) ∧
      ∀ n : Nat, n ≠ 5 → n ≠ 6 → n ≠ 7 → senseSource n argument.toNat = none) ∧
    (senseSource item.toNat argument.toNat = none → value = (s.setNow now).itemValue item.toNat →
      ∃ t, exec (.probe now) s = .next t ∧ t.now = now ∧
        AnswersProbe s t id (if item.toNat = 6 ∨ item.toNat = 7 then some 0 else none) value ∧
        t.link.handling = some { entry := e, done := true } ∧
        (item.toNat ≠ 3 → ChangesOnly [.link, .control] s t) ∧ ChangesOnly [.share, .link, .control] s t) ∧
    (∀ source : Source, senseSource item.toNat argument.toNat = some source →
      ∃ t, exec (.probe now) s = .next t ∧ t.now = now ∧
        (s.conv.inFlight = none → BeginsConversion s t now source (some id) ∧ t.conv.waitingProbe = s.conv.waitingProbe) ∧
        (s.conv.inFlight ≠ none →
          t.conv = { s.conv with waitingProbe := some { source, probe := id } }) ∧
        t.conv.waiting = s.conv.waiting ∧ t.conv.vMeas = s.conv.vMeas ∧ t.conv.temps = s.conv.temps ∧
        t.link = { s.link with handling := some { entry := e, done := true } } ∧ ChangesOnly [.conv, .link] s t)

/-! ### Frames taken from the intake -/

/-- SHADE frames of a half's authority. A SEGMENT with its start line within 4096 lines is the only segment of an empty
timeline, is appended after a last one that starts earlier, replaces one that starts with it, and is discarded and counted
before one that starts later; its target is 16 times its level, and where it is placed it raises an earlier confirmed-through
line to its start. A KEEP, aligned and not before the last segment's start, sets the confirmed-through line; one that is
misaligned, or that lies before that start, is discarded and counted, and one on an empty timeline changes nothing. After an
append the timeline is pruned: its oldest segment leaves while the second-oldest starts at or before the earliest onset line of
the WAITING records, or the current line when none is WAITING. -/
def Obligations.ShadeFramesAreTaken : Prop :=
  ∀ (s : State) (now : Time) (e : Entry) (h : Half) (accent : Bool) (s0 : BitVec 12) (rate lvl : Byte) (line : Line)
    (g last : Segment) (front : List Segment),
    (∀ (needed : Line) (gone kept : List Segment),
      (∀ n ∈ s.notes, n.state = .waiting → ¬ lineDiff n.onsetLine s.scan.line < lineDiff needed s.scan.line) →
      (∃ n ∈ s.notes, n.state = .waiting ∧ n.onsetLine = needed) ∨
        ((∀ n ∈ s.notes, n.state ≠ .waiting) ∧ needed = s.scan.line) →
      (s.half h).timeline = gone ++ kept → kept ≠ [] →
      (∀ (i : Nat) (y : Segment), i < gone.length → (gone ++ kept)[i + 1]? = some y → lineDiff y.start needed ≤ 0) →
      (∀ (y z : Segment) (rest : List Segment), kept = y :: z :: rest → 0 < lineDiff z.start needed) →
      (s.prune h).half h = { s.half h with timeline := kept }) ∧
    (s.toHandle = some e → s.mode.active = true → e.own = false → e.sender ≠ s.number →
    s.store.authority h = some e.sender →
    (e.payload = .segment h accent s0 rate lvl line →
      g = { start := line, s0 := s0.toNat, target := 16 * lvl.toNat, rate := rate.toNat, accent } →
      ∃ t, exec (.shadeSegment now) s = .next t ∧ t.now = now ∧
        ((lineDiff line s.scan.line).natAbs ≤ 4096 →
          ((s.half h).timeline = [] → (t.half h).timeline = [g] ∧ t.counters = s.counters) ∧
          ((s.half h).timeline = front ++ [last] → line = last.start →
            (t.half h).timeline = front ++ [g] ∧ t.counters = s.counters) ∧
          ((s.half h).timeline = front ++ [last] → line ≠ last.start → 0 < lineDiff line last.start →
            (t.half h).timeline.getLast? = some g ∧
            (∀ appended : List Segment,
              appended = (if front.length < 5 then front ++ [last, g] else (front ++ [last, g]).tail) →
              (t.half h).timeline =
                (((s.setHalf { s.half h with timeline := appended } h).prune h).half h).timeline) ∧
            t.counters.get .shadeSegmentsEvicted =
              (if front.length < 5 then s.counters.get .shadeSegmentsEvicted
               else min (s.counters.get .shadeSegmentsEvicted + 1) 65535)) ∧
          ((s.half h).timeline = front ++ [last] → line ≠ last.start → ¬ 0 < lineDiff line last.start →
            t.half h = s.half h ∧ t.counters.get .misalignedFrames = min (s.counters.get .misalignedFrames + 1) 65535) ∧
          ((s.half h).timeline = [] ∨
              ((s.half h).timeline = front ++ [last] ∧ (line = last.start ∨ 0 < lineDiff line last.start)) →
            (t.half h).through =
              (match (s.half h).through with
               | some c => if lineDiff c line < 0 then some line else some c
               | none => some line))) ∧
        (4096 < (lineDiff line s.scan.line).natAbs →
          t.half h = s.half h ∧ t.counters.get .misalignedFrames = min (s.counters.get .misalignedFrames + 1) 65535) ∧
        ((t.half h).generator = (s.half h).generator ∧ (t.half h).queue = (s.half h).queue) ∧
        (∀ j : Half, j ≠ h → t.half j = s.half j) ∧
        t.link = { s.link with handling := some { entry := e, done := true } } ∧
        CountersBut [.shadeSegmentsEvicted, .misalignedFrames] s t ∧ ChangesOnly [.shade, .link, .counters] s t) ∧
    (e.payload = .keep h line →
      ∃ t, exec (.shadeKeep now) s = .next t ∧ t.now = now ∧
        ((s.half h).timeline.getLast? = some last → (lineDiff line s.scan.line).natAbs ≤ 4096 →
          ¬ lineDiff line last.start < 0 →
          t.half h = { s.half h with through := some line } ∧ t.counters = s.counters) ∧
        ((s.half h).timeline = [] → (lineDiff line s.scan.line).natAbs ≤ 4096 →
          t.half h = s.half h ∧ t.counters = s.counters) ∧
        (4096 < (lineDiff line s.scan.line).natAbs ∨
            ((s.half h).timeline.getLast? = some last ∧ lineDiff line last.start < 0) →
          t.half h = s.half h ∧ t.counters.get .misalignedFrames = min (s.counters.get .misalignedFrames + 1) 65535) ∧
        (∀ j : Half, j ≠ h → t.half j = s.half j) ∧ CountersBut [.misalignedFrames] s t ∧
        t.link = { s.link with handling := some { entry := e, done := true } } ∧
        ChangesOnly [.shade, .link, .counters] s t))

/-- A PEDAL frame of the pedal source, handled at the pedal drive. A line more than 4096 lines away has it discarded and
counted. Otherwise its event, the shift's HALF being DOWN, takes its action time from the ring (now for a line too old) or
waits for its line, and enters the queue in line order, in place of an event of the same line; a queue of five drops its
earliest and counts it. The event acts at once when it then stands first and its action time is at or before now. The ring
answers a line it holds with that line's time, any other that is earlier than its oldest and not later than the current line
with too old, and every other with not yet. -/
def Obligations.PedalFrameEntersTheQueue : Prop :=
  ∀ (s : State) (now : Time) (e : Entry) (p : Pedal) (code : BitVec 2) (line : Line) (position : Position),
    ((∀ (front back : List RingEntry) (x : RingEntry), s.scan.ring = front ++ x :: back → x.line = line →
        (∀ y ∈ front, y.line ≠ line) → s.scan.ringTime line = .at x.time) ∧
      (∀ (oldest : RingEntry) (rest : List RingEntry), s.scan.ring = oldest :: rest →
        (∀ y ∈ s.scan.ring, y.line ≠ line) →
        s.scan.ringTime line =
          (if lineDiff line oldest.line < 0 ∧ ¬ 0 < lineDiff line s.scan.line then .tooOld else .notYet)) ∧
      (s.scan.ring = [] → s.scan.ringTime line = .notYet)) ∧
    (s.toHandle = some e → e.payload = .pedal p code line → s.mode.active = true → s.isPedalDrive = true →
    e.own = false → e.sender ≠ s.number → s.store.pedalSource = some e.sender →
    (code = 0 ∧ position = .up) ∨ (code = 1 ∧ position = (if p = .damper then .half else .down)) ∨
      (code = 2 ∧ position = .down) →
    (4096 < (lineDiff line s.scan.line).natAbs →
      ∃ t, exec (.pedalFrame now) s = .next t ∧ t.now = now ∧
        t.counters.get .misalignedFrames = min (s.counters.get .misalignedFrames + 1) 65535 ∧
        CountersBut [.misalignedFrames] s t ∧
        t.link = { s.link with handling := some { entry := e, done := true } } ∧ ChangesOnly [.link, .counters] s t) ∧
    ((lineDiff line s.scan.line).natAbs ≤ 4096 →
      ∀ (action : Option Time) (x old : PedalEvent) (front back entered queue : List PedalEvent) (target : Nat),
      x = { position, line, action } →
      (∃ lineTime : Time, s.scan.ringTime line = .at lineTime ∧
          action = some (shifted lineTime (s.store.delay - 1000 * s.store.pedalLead))) ∨
        (s.scan.ringTime line = .tooOld ∧ action = some now) ∨ (s.scan.ringTime line = .notYet ∧ action = none) →
      (∀ y ∈ front, lineDiff y.line s.scan.line < lineDiff line s.scan.line) →
      (∀ y ∈ back, lineDiff line s.scan.line < lineDiff y.line s.scan.line) →
      (s.pedal p).events = front ++ back ∨ ((s.pedal p).events = front ++ old :: back ∧ old.line = line) →
      entered = front ++ x :: back → queue = (if entered.length ≤ 4 then entered else entered.tail) →
      target = (match p, position with
        | _, .up => 0
        | .damper, .half => s.store.pHalf
        | .damper, .down => s.store.pDown
        | .shift, _ => s.store.pShift) →
      ∃ t, exec (.pedalFrame now) s = .next t ∧ t.now = now ∧
        (queue.head? ≠ some x ∨ (∀ a : Time, action = some a → reached now a = false) →
          t.pedal p = { s.pedal p with events := queue } ∧ ChangesOnly [.pedals, .link, .counters] s t) ∧
        (∀ a : Time, queue.head? = some x → action = some a → reached now a = true →
          TakesAction s t now p position target queue.tail (s.mode = .play)) ∧
        (∀ q : Pedal, q ≠ p → t.pedal q = s.pedal q) ∧ t.pedals.queue = s.pedals.queue ∧
        (entered.length ≤ 4 → t.counters = s.counters) ∧
        (4 < entered.length →
          t.counters.get .pedalEventsShed = min (s.counters.get .pedalEventsShed + 1) 65535) ∧
        CountersBut [.pedalEventsShed] s t ∧ t.link.handling = some { entry := e, done := true } ∧
        SlotsOnly [.load] { s with link := { s.link with handling := t.link.handling } } t ∧
        ChangesOnly [.pedals, .share, .link, .counters] s t))

/-- NOTICE and REPLY frames are discarded at handling, and the end of a handling whose effects are complete takes the oldest
entry of the queue. -/
def Obligations.HandlingEndTakesTheNextEntry : Prop :=
  ∀ (s : State) (now : Time) (e next : Entry) (rest : List Entry) (requester : BitVec 4) (value : BitVec 24)
    (item condition cause : Byte),
    (s.toHandle = some e → e.payload = .notice condition cause →
      ∃ t, exec (.noticeFrame now) s = .next t ∧ t.now = now ∧
        t.link = { s.link with handling := some { entry := e, done := true } } ∧ ChangesOnly [.link] s t) ∧
    (s.toHandle = some e → e.payload = .reply requester item condition value →
      ∃ t, exec (.replyFrame now) s = .next t ∧ t.now = now ∧
        t.link = { s.link with handling := some { entry := e, done := true } } ∧ ChangesOnly [.link] s t) ∧
    (s.link.handling = some { entry := e, done := true } →
      (s.link.intake = [] →
        ∃ t, exec (.handlingEnd now) s = .next t ∧ t.now = now ∧ t.link = { s.link with handling := none } ∧
          ChangesOnly [.link] s t) ∧
      (s.link.intake = next :: rest →
        ∃ t, exec (.handlingEnd now) s = .next t ∧ t.now = now ∧ t.link.intake = rest ∧
          (t.link.handling.map Handling.entry) = some next ∧
          t.link = { s.link with handling := t.link.handling, intake := rest } ∧ ChangesOnly [.link] s t))

/-! ### The section link -/

/-- On the idle line a station neither muted nor sending begins a frame of the one ready slot that is taken before every
other: ready means QUEUED or awaiting a retry, and held back neither by the mode nor, a claim slot, by an unhandled CLAIM or
LOAD frame; the lowest class goes first, and in class 1 and at the claim slots the earlier queued time, SHADE-BASS and CLAIM-A
at equal times. With no slot ready, muted, or receiving it begins none. The slot becomes SENDING, its frame on the line. A
claim frame is weighed against the headroom, marked overdrawn above it, and its offset and duration are bound from the frame's
expected end; one whose window has passed by then is CANCELLED. A start bit of another station makes the station a receiver. -/
def Obligations.AttemptBeginsTheChosenFrame : Prop :=
  ∀ (s : State) (now : Time) (i : Slot) (frame : Payload) (c : ClaimId) (x : Claim) (expected : Time) (overdrawn : Bool)
    (offset duration : Nat),
    (s.chosen = some i ↔
      s.link.line = .idle ∧ s.link.onLine = none ∧ s.link.muted = false ∧ s.offers i ∧
        ∀ j : Slot, s.offers j → j ≠ i → s.takenBefore i j) ∧
    (s.chosen = none ↔
      ¬ (s.link.line = .idle ∧ s.link.onLine = none ∧ s.link.muted = false) ∨ ∀ j : Slot, ¬ s.offers j) ∧
    (s.chosen = some i → i.isClaim = false → (s.slot i).frame = some frame →
      ∃ t, exec (.attemptStart ⟨now, false⟩) s = .next t ∧ t.now = now ∧
        t.link.onLine = some { slot := i, wasQueued := decide ((s.slot i).state = .queued), frame } ∧
        t.slot i = { s.slot i with state := .sending } ∧
        (∀ j : Slot, j ≠ i → t.slot j = s.slot j) ∧
        t.link = { s.link with slots := t.link.slots, onLine := t.link.onLine } ∧ ChangesOnly [.link] s t) ∧
    (s.chosen = some (.claim c) → (s.claimSlot c).claim = some x → expected = after now 200 →
      (reached expected x.windowEnd = true → s.mode ≠ .winddown →
        ∃ t, exec (.attemptStart ⟨now, false⟩) s = .next t ∧ t.now = now ∧ t.link.onLine = s.link.onLine ∧
          t.slot (.claim c) = { s.slot (.claim c) with state := .cancelled, cancel := none } ∧
          SlotsOnly [.claim c] s t ∧ ChangesOnly [.link] s t) ∧
      (reached expected x.windowEnd = false →
        overdrawn = (x.overdrawn ||
          decide ((s.setNow now).headroom x.windowStart x.windowEnd (some c) < x.amount)) →
        offset = (if reached expected x.windowStart then 0
          else min 255 ((timeDiff x.windowStart expected).toNat / 1000)) →
        duration = min 255 (max 1
          (ceilDiv (timeDiff x.windowEnd (after expected (1000 * offset))).toNat 1000)) →
        ∃ t, exec (.attemptStart ⟨now, false⟩) s = .next t ∧ t.now = now ∧
          t.link.onLine =
            some
              { slot := .claim c, wasQueued := decide ((s.slot (.claim c)).state = .queued)
                frame :=
                  .claim x.tag overdrawn x.late (fieldOf 16 x.amount) (fieldOf 8 offset) (fieldOf 8 duration) } ∧
          t.slot (.claim c) = { s.slot (.claim c) with state := .sending } ∧
          (∀ j : Slot, j ≠ .claim c → t.slot j = s.slot j) ∧
          t.claimSlot c = { s.claimSlot c with claim := some { x with overdrawn } } ∧
          t.claimSlot c.other = s.claimSlot c.other ∧
          t.counters.get .overdrawnClaims =
            (if x.overdrawn = false ∧ overdrawn = true then min (s.counters.get .overdrawnClaims + 1) 65535
             else s.counters.get .overdrawnClaims) ∧
          CountersBut [.overdrawnClaims] s t ∧ ChangesOnly [.share, .link, .counters] s t)) ∧
    (s.chosen = none → exec (.attemptStart ⟨now, false⟩) s = .next (s.setNow now)) ∧
    (s.link.line = .idle → s.link.onLine = none →
      ∃ t, exec (.attemptStart ⟨now, true⟩) s = .next t ∧ t.now = now ∧
        t.link = { s.link with line := .receiving } ∧ ChangesOnly [.link] s t)

/-- Arbitration lost: the attempt is withdrawn, and the station receives the frame that won. A slot awaiting a retry awaits it
again. A slot that was QUEUED is QUEUED again with its attempt count and queued time, and a held LOAD value, held notice or
held probe's reply is then put into it. A cancellation pending there makes a claim slot CANCELLED, and one of a recheck has the
claim fitted and QUEUED again. Stated for a fit that sends no member to fire at once. -/
def Obligations.LostArbitrationRequeuesTheSlot : Prop :=
  ∀ (s : State) (now : Time) (a : Attempt),
    s.link.onLine = some a → s.mode ≠ .winddown →
    ∃ t, exec (.arbitrationLost now) s = .next t ∧ t.now = now ∧
      t.link.onLine = none ∧ t.link.line = .receiving ∧ t.link.intake = s.link.intake ∧
      t.link.objectionCount = s.link.objectionCount ∧ t.link.muted = s.link.muted ∧
      (a.wasQueued = false → t.slot a.slot = s.slot a.slot ∧
        (∀ j : Slot, t.slot j = s.slot j) ∧ ChangesOnly [.link] s t) ∧
      (a.wasQueued = true → (s.slot a.slot).cancel = none →
        (∀ j : Slot, j ≠ a.slot → t.slot j = s.slot j) ∧
        ((a.slot = .load → s.share.heldLoad = none) → (a.slot = .notice → s.control.heldNotice = none) →
          (a.slot = .reply → s.control.heldProbe = none) →
          t.slot a.slot = { s.slot a.slot with state := .queued } ∧ ChangesOnly [.link] s t) ∧
        (∀ value : Nat, a.slot = .load → s.share.heldLoad = some value →
          t.slot .load = { s.slot .load with state := .queued, frame := some (.load (fieldOf 12 value)) } ∧
          t.share = { s.share with heldLoad := none } ∧ ChangesOnly [.share, .link] s t) ∧
        (∀ n : HeldNotice, a.slot = .notice → s.control.heldNotice = some n →
          t.slot .notice = { s.slot .notice with state := .queued, frame := some (.notice n.condition n.cause) } ∧
          t.control = { s.control with heldNotice := none } ∧ ChangesOnly [.link, .control] s t) ∧
        (∀ x : HeldProbe, a.slot = .reply → s.control.heldProbe = some x → x.probe.item ≠ 3 →
          t.slot .reply =
            { s.slot .reply with
              state := .queued
              frame :=
                some (.reply x.probe.requester x.probe.item s.conditionByte
                  (BitVec.ofInt 24 (x.sensed.getD (s.itemValue x.probe.item.toNat)))) } ∧
          t.control =
            { s.control with
              heldProbe := none, carriedLoss := s.control.lossMark, carriedDrop := s.control.dropMark } ∧
          ChangesOnly [.link, .control] s t)) ∧
      (∀ c : ClaimId, a.wasQueued = true → a.slot = .claim c →
        ((s.slot (.claim c)).cancel = some .final →
          t.slot (.claim c) = { s.slot (.claim c) with state := .cancelled, cancel := none } ∧
          (∀ j : Slot, j ≠ .claim c → t.slot j = s.slot j) ∧ ChangesOnly [.link] s t) ∧
        (∀ (fitted : State) (x : Claim), (s.slot (.claim c)).cancel = some .refit → (s.claimSlot c).claim = some x →
          fitted = ((s.setNow now).moveSlot (.claim c) .cancelled).fit c → fitted.settled →
          t.slot (.claim c) = { state := .queued, frame := none, queuedAt := now, attempts := 0, cancel := none } ∧
          t.claimSlot c = fitted.claimSlot c ∧ t.notes = fitted.notes ∧
          (t.claimSlot c).claim.map Claim.tag = some x.tag ∧ t.claimSlot c.other = s.claimSlot c.other ∧
          t.slot (.claim c.other) = s.slot (.claim c.other) ∧ CountersBut [.lateStrikes, .overdrawnClaims] s t ∧
          ChangesOnly [.notes, .share, .link, .control, .counters] s t))

/-- A clean own attempt, the sender having read every bit of its length, payload and check and of what follows as sent: the
objection count falls by 1 if above 0, the own echo is entered in the intake while fewer than 24 entries are held, and a
claim slot's claim departs. Stated for the claim slots, whose owner refills nothing. -/
def Obligations.CleanAttemptIsSentAndEchoed : Prop :=
  ∀ (s : State) (now : Time) (a : Attempt) (c : ClaimId) (x : Claim) (h : Handling) (bits : List Bool)
    (ending : ObjectionBits), s.ReadsAsSent a bits ending →
    s.link.onLine = some a → a.slot = .claim c → (s.claimSlot c).claim = some x → s.mode.active = true →
    s.mode ≠ .winddown → s.link.handling = some h → s.link.intake.length < 24 →
    ∃ t, exec (.attemptEnd now bits ending) s = .next t ∧ t.now = now ∧
      (t.slot (.claim c)).state = .sent ∧ t.link.onLine = none ∧ t.link.line = .idle ∧
      t.link.objectionCount = s.link.objectionCount - 1 ∧
      t.link.intake = s.link.intake ++ [{ sender := s.number, payload := a.frame, own := true, arrival := now }] ∧
      t.share =
        { s.share with
          departed := some { tag := x.tag, amount := x.amount, windowStart := x.windowStart, windowEnd := x.windowEnd } } ∧
      (∀ j : Slot, j ≠ .claim c → t.slot j = s.slot j) ∧ ChangesOnly [.share, .link] s t

/-- An own attempt is objected when the sender reads a bit of its length, payload, check or objection delimiter that differs
from the one it sent, or the objection slot dominant. It counts in `objections` and raises the objection count, at 32 muting
the station. With no cancellation pending the fourth objected attempt makes the slot FAILED, and an earlier one leaves it
SENDING to retry with its frame as it stands, into which a held LOAD value is written at the LOAD slot. With one pending a
claim slot is CANCELLED: for a change of mode it stays so, and for a recheck its claim is fitted then and QUEUED again, its
attempt count 0 and its tag kept. Stated for a slot that is SENDING while its attempt is on the line, which
`EveryStepSettlesTheList` keeps, and for a fit that sends no member to fire at once. -/
def Obligations.ObjectedAttemptRetriesOrFails : Prop :=
  ∀ (s : State) (now : Time) (a : Attempt) (c : ClaimId) (bits : List Bool) (ending : ObjectionBits),
    s.link.onLine = some a → s.holdsLine → ¬ s.ReadsAsSent a bits ending → s.mode ≠ .winddown →
    s.link.objectionCount ≤ 32 →
    (∃ t, exec (.attemptEnd now bits ending) s = .next t ∧ t.now = now ∧
      t.link.onLine = none ∧ t.link.line = .idle ∧ t.link.objectionCount = min (s.link.objectionCount + 1) 32 ∧
      t.link.muted = (s.link.muted || decide (31 ≤ s.link.objectionCount)) ∧ t.link.intake = s.link.intake ∧
      t.counters.get .objections = min (s.counters.get .objections + 1) 65535 ∧
      ((s.slot a.slot).cancel = none →
        CountersBut [.objections] s t ∧ (∀ j : Slot, j ≠ a.slot → j ≠ .notice → t.slot j = s.slot j) ∧
        (a.slot = .claim c →
          (t.slot (.claim c)).attempts = (s.slot (.claim c)).attempts + 1 ∧
          (4 ≤ (s.slot (.claim c)).attempts + 1 → (t.slot (.claim c)).state = .failed) ∧
          ((s.slot (.claim c)).attempts + 1 < 4 → (t.slot (.claim c)).state = (s.slot (.claim c)).state) ∧
          t.share = s.share ∧ ChangesOnly [.link, .control, .counters] s t) ∧
        ((s.slot a.slot).attempts + 1 < 4 → a.slot ≠ .load ∨ s.share.heldLoad = none →
          t.slot a.slot = { s.slot a.slot with attempts := (s.slot a.slot).attempts + 1 } ∧
          ChangesOnly [.link, .control, .counters] s t) ∧
        (∀ value : Nat, (s.slot a.slot).attempts + 1 < 4 → a.slot = .load → s.share.heldLoad = some value →
          t.slot .load =
            { s.slot .load with
              attempts := (s.slot .load).attempts + 1, frame := some (.load (fieldOf 12 value)) } ∧
          t.share = { s.share with heldLoad := none } ∧ ChangesOnly [.share, .link, .control, .counters] s t)) ∧
      (a.slot = .claim c →
        ((s.slot (.claim c)).cancel = some .final →
          (t.slot (.claim c)).state = .cancelled ∧ (t.slot (.claim c)).cancel = none ∧
          CountersBut [.objections] s t ∧ ChangesOnly [.link, .control, .counters] s t) ∧
        (∀ (fitted : State) (x : Claim), (s.slot (.claim c)).cancel = some .refit → (s.claimSlot c).claim = some x →
          fitted = ((s.setNow now).moveSlot (.claim c) .cancelled).fit c → fitted.settled →
          t.slot (.claim c) = { state := .queued, frame := none, queuedAt := now, attempts := 0, cancel := none } ∧
          t.claimSlot c = fitted.claimSlot c ∧ t.notes = fitted.notes ∧
          (t.claimSlot c).claim.map Claim.tag = some x.tag ∧ t.claimSlot c.other = s.claimSlot c.other ∧
          t.slot (.claim c.other) = s.slot (.claim c.other) ∧
          CountersBut [.objections, .lateStrikes, .overdrawnClaims] s t ∧
          ChangesOnly [.notes, .share, .link, .control, .counters] s t)))

/-- The end of an attempt of a slot other than a claim slot, SENT when the sender read it as it was sent, or else FAILED: the
slot's owner is told and refills it with the oldest entry of its queue, its held LOAD value, its held notice or the held
probe's reply made up now, and a slot with nothing behind it stays SENT or FAILED. A REPLY that ends SENT first clears the
report marks that it carried. -/
def Obligations.EndedSlotsAreRefilled : Prop :=
  ∀ (s : State) (now : Time) (a : Attempt) (sent : Bool) (refill : Payload → OutSlot) (bits : List Bool)
    (ending : ObjectionBits), s.EndsAttempt a sent → (sent = true ↔ s.ReadsAsSent a bits ending) →
    (∀ f : Payload, refill f = { state := .queued, frame := some f, queuedAt := now, attempts := 0, cancel := none }) →
    ∃ t, exec (.attemptEnd now bits ending) s = .next t ∧ t.now = now ∧ t.link.onLine = none ∧ t.link.line = .idle ∧
      (∀ h : Half, a.slot = .shade h →
        ((s.half h).queue = [] → (t.slot a.slot).state = (if sent then .sent else .failed) ∧ t.shade = s.shade) ∧
        (∀ (f : ShadeFrame) (rest : List ShadeFrame), (s.half h).queue = f :: rest →
          t.slot a.slot = refill (f.payload h) ∧ t.half h = { s.half h with queue := rest })) ∧
      (a.slot = .pedal →
        (s.pedals.queue = [] → (t.slot a.slot).state = (if sent then .sent else .failed) ∧ t.pedals = s.pedals) ∧
        (∀ (m : PedalMove) (rest : List PedalMove), s.pedals.queue = m :: rest →
          t.slot a.slot = refill (.pedal m.pedal m.position.code m.line) ∧
          t.pedals = { s.pedals with queue := rest })) ∧
      (a.slot = .load →
        (s.share.heldLoad = none → (t.slot a.slot).state = (if sent then .sent else .failed) ∧ t.share = s.share) ∧
        (∀ v : Nat, s.share.heldLoad = some v →
          t.slot a.slot = refill (.load (fieldOf 12 v)) ∧ t.share = { s.share with heldLoad := none })) ∧
      (a.slot = .notice →
        (s.control.heldNotice = none →
          (t.slot a.slot).state = (if sent then .sent else .failed) ∧ t.control = s.control) ∧
        (∀ n : HeldNotice, s.control.heldNotice = some n →
          t.slot a.slot = refill (.notice n.condition n.cause) ∧
          t.control = { s.control with heldNotice := none })) ∧
      (a.slot = .reply →
        (∀ mark : Bool, mark = (s.control.lossMark && !(sent && s.control.carriedLoss)) → t.control.lossMark = mark) ∧
        (∀ mark : Bool, mark = (s.control.dropMark && !(sent && s.control.carriedDrop)) → t.control.dropMark = mark) ∧
        t.control.heldProbe = none ∧
        (s.control.heldProbe = none → (t.slot a.slot).state = (if sent then .sent else .failed)) ∧
        (∀ x : HeldProbe, s.control.heldProbe = some x → x.probe.item ≠ 3 →
          t.slot a.slot =
            refill (.reply x.probe.requester x.probe.item t.conditionByte
              (BitVec.ofInt 24 (x.sensed.getD (t.itemValue x.probe.item.toNat)))) ∧
          t.control.carriedLoss = t.control.lossMark ∧ t.control.carriedDrop = t.control.dropMark)) ∧
      ((∀ c : ClaimId, a.slot ≠ .claim c) →
        (∀ j : Slot, j ≠ a.slot → j ≠ .notice → t.slot j = s.slot j) ∧
        (sent = true → t.link.objectionCount = s.link.objectionCount - 1 ∧ t.counters = s.counters ∧
          (s.mode.active = true →
            t.link.intake = s.link.intake ++ [{ sender := s.number, payload := a.frame, own := true, arrival := now }])) ∧
        (sent = false → t.link.objectionCount = s.link.objectionCount + 1 ∧ t.link.muted = s.link.muted ∧
          t.counters.get .objections = min (s.counters.get .objections + 1) 65535 ∧ CountersBut [.objections] s t) ∧
        ChangesOnly [.shade, .pedals, .share, .link, .control, .counters] s t)

/-- Frames of other stations. A clean one, read whole from the line, is entered in the intake queue while fewer than 23
entries are held, and is otherwise lost and counted; a frame objected by another station is discarded. A muted station counts
the clean ones, returns the count to 0 at an objected or broken one, and leaves mute at 64. A broken frame leaves the line not
idle, and ten recessive bits make it idle again. -/
def Obligations.FramesOfOthersAreTaken : Prop :=
  ∀ (s : State) (now : Time) (straps sender : StationNo) (f : Payload) (h : Handling),
    (s.link.line ≠ .unread → s.link.onLine = none → s.mode.active = true → s.link.handling = some h →
      (s.link.muted = false → s.link.intake.length < 23 →
        ∃ t, exec (.frameDelivery now straps (encodeFrame sender f) false) s = .next t ∧ t.now = now ∧
          t.link =
            { s.link with
              line := .idle
              intake := s.link.intake ++ [{ sender, payload := f, own := false, arrival := now }] } ∧
          ChangesOnly [.link] s t) ∧
      (s.link.muted = false → 23 ≤ s.link.intake.length →
        ∃ t, exec (.frameDelivery now straps (encodeFrame sender f) false) s = .next t ∧ t.now = now ∧
          t.link.intake = s.link.intake ∧ t.control.lossMark = true ∧ t.link.line = .idle ∧
          t.counters.get .intakeLost = min (s.counters.get .intakeLost + 1) 65535 ∧ CountersBut [.intakeLost] s t ∧
          ChangesOnly [.link, .control, .counters] s t) ∧
      (s.link.muted = true → s.link.intake.length < 23 →
        ∃ t, exec (.frameDelivery now straps (encodeFrame sender f) false) s = .next t ∧ t.now = now ∧
          t.link.intake = s.link.intake ++ [{ sender, payload := f, own := false, arrival := now }] ∧
          t.link.line = .idle ∧
          (s.link.cleanCount + 1 < 64 →
            t.link.muted = true ∧ t.link.cleanCount = s.link.cleanCount + 1 ∧
            t.link.objectionCount = s.link.objectionCount ∧ ChangesOnly [.link] s t) ∧
          (64 ≤ s.link.cleanCount + 1 →
            t.link.muted = false ∧ t.link.cleanCount = 0 ∧ t.link.objectionCount = 0 ∧
            (s.control.lossMark = false → t.noticeStands t.conditionByte) ∧ ChangesOnly [.link, .control] s t)) ∧
      (∃ t, exec (.frameDelivery now straps (encodeFrame sender f) true) s = .next t ∧ t.now = now ∧
        t.link = { s.link with line := .idle, cleanCount := 0 } ∧ ChangesOnly [.link] s t)) ∧
    (s.link.line ≠ .unread → s.link.onLine = none →
      ∃ t, exec (.brokenFrame now) s = .next t ∧ t.now = now ∧
        t.link = { s.link with line := .unread, cleanCount := 0 } ∧ ChangesOnly [.link] s t) ∧
    (s.link.line = .unread →
      ∃ t, exec (.lineIdle now) s = .next t ∧ t.now = now ∧ t.link = { s.link with line := .idle } ∧
        ChangesOnly [.link] s t)

/-! ### Arithmetic -/

/-- Stages 1 to 4 and 6 to 8 of the arm computation by their formulas, with their ranges. Stage 1 takes from a half's
timeline the latest segment that starts at or before the line, at its value there, which goes from S0 toward the target by
the rate for each line and stops at it; before the first start it takes the first's S0, and with no segment the default. It
is projected when the confirmed-through line is none or, in a half the station does not generate for, earlier than the line.
Stage 2 clamps the shade's level with accent and trim, stage 3 reads the nine-knot curve, which never falls, stage 4 scales
it by the gain and floors it, stage 6 applies the cap above the floor duty, stage 7 rounds the share upward, and stage 8 sets
the fire time a flight before the target time, or at now with the late mark when that is past. -/
def Obligations.StagesOfTheArmComputation : Prop :=
  ∀ (s : State) (v : Voicing) (r : KeyRecord) (now onset fire : Time) (cap : Option Nat) (shade accent lvl other energy duty : Nat)
    (trim : Int) (image : List Byte) (k : Driver),
    v = readVoicing image → r = v.key k →
    (∀ (g : Segment) (line : Line) (lines : Nat), (lines : Int) = lineDiff line g.start →
      (g.rate = 0 → g.value line = g.s0) ∧
      (g.rate ≠ 0 → g.s0 ≤ g.target → g.value line = min g.target (g.s0 + g.rate * lines)) ∧
      (g.rate ≠ 0 → g.target < g.s0 →
        (g.value line : Int) = max (g.target : Int) ((g.s0 : Int) - g.rate * lines)) ∧
      min g.s0 g.target ≤ g.value line ∧ g.value line ≤ max g.s0 g.target) ∧
    (∀ (h : Half) (line : Line) (g : Segment) (front back : List Segment) (through : Option Line),
      through = (if s.generates h = true then some line else (s.half h).through) →
      ((s.evaluateShade h line).projected = true ↔ ∀ c : Line, through = some c → 0 < lineDiff line c) ∧
      ((s.half h).timeline = [] →
        (s.evaluateShade h line).value = 16 * (s.store.half h).default ∧ (s.evaluateShade h line).accent = false) ∧
      ((s.half h).timeline = front ++ g :: back → lineDiff g.start line ≤ 0 →
        (∀ x ∈ back, 0 < lineDiff x.start line) →
        (s.evaluateShade h line).value = g.value line ∧ (s.evaluateShade h line).accent = g.accent) ∧
      ((s.half h).timeline = g :: back → (∀ x ∈ g :: back, 0 < lineDiff x.start line) →
        (s.evaluateShade h line).value = g.s0 ∧ (s.evaluateShade h line).accent = g.accent)) ∧
    ((level shade accent trim : Int) = max 0 (min ((shade / 16 : Nat) + (accent : Int) + trim) 255)) ∧
    (lvl ≤ 255 →
      curveEnergy v.knots lvl =
        v.knots.getD (lvl / 32) 0 +
          ((v.knots.getD (lvl / 32 + 1) 0 - v.knots.getD (lvl / 32) 0) * (lvl % 32) + 16) / 32 ∧
      v.knots.getD (lvl / 32) 0 ≤ curveEnergy v.knots lvl ∧
      curveEnergy v.knots lvl ≤ v.knots.getD (lvl / 32 + 1) 0 ∧ curveEnergy v.knots lvl ≤ 1023 ∧
      (other ≤ lvl → curveEnergy v.knots other ≤ curveEnergy v.knots lvl)) ∧
    (keyEnergy r energy = min (max ((energy * r.gain + 64) / 128) r.eMin) 1023 ∧ r.eMin ≤ keyEnergy r energy ∧
      keyEnergy r energy ≤ 1023) ∧
    (r.eMin ≤ energy → energy ≤ 1023 → duty = dutyOf r energy →
      (cap = none → capAtArm r cap energy duty = (energy, duty)) ∧
      (∀ x : Nat, cap = some x →
        (duty ≤ max r.pFloor x → capAtArm r cap energy duty = (energy, duty)) ∧
        (max r.pFloor x < duty →
          capAtArm r cap energy duty = (energyOf r (max r.pFloor x), max r.pFloor x)))) ∧
    (1 ≤ duty → duty ≤ 255 →
      255 * (currentAt r.iFull duty - 1) < r.iFull * duty ∧ r.iFull * duty ≤ 255 * currentAt r.iFull duty ∧
      1 ≤ currentAt r.iFull duty ∧ currentAt r.iFull duty ≤ r.iFull) ∧
    (energy ≤ 1023 →
      flight r energy = 100 * r.fSlow - (100 * (r.fSlow - r.fFast) * energy + 511) / 1023 ∧
      100 * r.fFast ≤ flight r energy ∧ flight r energy ≤ 100 * r.fSlow ∧ flight r 1023 = 100 * r.fFast) ∧
    (∀ (x : Strike) (late : Bool), computeStrike v r now onset cap lvl = (x, late) →
      (x.energy, x.duty) =
        capAtArm r cap (keyEnergy r (curveEnergy v.knots lvl)) (dutyOf r (keyEnergy r (curveEnergy v.knots lvl))) ∧
      x.share = currentAt r.iFull x.duty ∧ r.pFloor ≤ x.duty ∧ x.duty ≤ r.pMax ∧ r.eMin ≤ x.energy ∧ x.energy ≤ 1023 ∧
      (fire = shifted (after onset v.delay) (-(flight r x.energy : Int)) →
        late = earlier fire now ∧ x.fireTime = (if late = true then now else fire)))

/-- Stage 5 and its inverse: the duty of an energy by its formula, rounded to nearest, rises with the energy from p_min at 0
to p_max at 1023 and is within the floor duty and p_max for an energy from E_min to 1023. For a duty from the floor duty to
p_max, the inverse gives an energy from E_min to 1023 that stage 5 turns back into the duty. Stage 9 takes a note to a lower
duty with that energy and the share of the duty, and sets its fire time a flight before its target time, or at now with the
late mark when that is past. -/
def Obligations.DutyOfAnEnergy : Prop :=
  ∀ (v : Voicing) (r : KeyRecord) (now onset : Time) (energy other duty : Nat), r.pMin < r.pMax → r.pFloor = dutyOf r r.eMin →
    dutyOf r energy = r.pMin + ((r.pMax - r.pMin) * energy + 511) / 1023 ∧
    1023 * (dutyOf r energy - r.pMin) ≤ (r.pMax - r.pMin) * energy + 511 ∧
    (r.pMax - r.pMin) * energy ≤ 1023 * (dutyOf r energy - r.pMin) + 511 ∧
    (energy ≤ other → dutyOf r energy ≤ dutyOf r other) ∧ dutyOf r 0 = r.pMin ∧ dutyOf r 1023 = r.pMax ∧
    (r.eMin ≤ energy → energy ≤ 1023 → r.pFloor ≤ dutyOf r energy ∧ dutyOf r energy ≤ r.pMax) ∧
    energyOf r duty =
      max r.eMin (((duty - r.pMin) * 1023 + (r.pMax - r.pMin) / 2) / (r.pMax - r.pMin)) ∧
    (∀ (x : Strike) (late : Bool) (fire : Time), reduceStrike v r now onset duty = (x, late) →
      fire = shifted (after onset v.delay) (-(flight r x.energy : Int)) →
      x.duty = duty ∧ x.energy = energyOf r duty ∧ x.share = ceilDiv (r.iFull * duty) 255 ∧ late = earlier fire now ∧
      x.fireTime = (if late = true then now else fire)) ∧
    (r.pMax ≤ 255 → r.eMin ≤ 1023 → r.pFloor ≤ duty → duty ≤ r.pMax →
      dutyOf r (energyOf r duty) = duty ∧ r.eMin ≤ energyOf r duty ∧ energyOf r duty ≤ 1023)

/-! ### The whole machine -/

/-- A frame that a station sends is read as itself: every receiver reads the sender and every field of the payload. -/
def Obligations.FramesReadAsSent : Prop :=
  ∀ (sender : StationNo) (f : Payload), readFrame (encodeFrame sender f) = .good sender f

/-- Every counter stays within 65,535, and falls at a reset or RESTART alone. -/
def Obligations.CountersSaturateAndOnlyRise : Prop :=
  ∀ (c : Instr) (s t : State), s.countersBounded → exec c s = .next t →
    t.countersBounded ∧ ((∀ i : Counter, s.counters.get i ≤ t.counters.get i) ∨
      (t.mode = .loading ∧ ∀ i : Counter, t.counters.get i = 0))

/-- Every list and count keeps within its capacity at every step: the ring, the note list, the shade queues and timelines, the
pedal queues, the claim records, the intake queue and the objection count. -/
def Obligations.CapacitiesAreKept : Prop :=
  ∀ s t : State, s.bounded → step s = .next t → t.bounded

/-- The own standing load stays the sum of the keys' hold currents and the pedals' standing loads at every step. -/
def Obligations.StandingLoadIsTheSumOfHolds : Prop :=
  ∀ s t : State, s.loadBalanced → step s = .next t → t.loadBalanced

/-- No step energizes a key or pedal outside PLAY and WINDDOWN, in thermal shutdown of its cluster or in hold-off; the rules
that keep records to PLAY and WINDDOWN are kept with it. -/
def Obligations.CoilsStayGated : Prop :=
  ∀ s t : State, s.Safe → step s = .next t → t.Safe

/-- Between events no record has a due time left to be reached within the event that set it, and the slot of an own attempt on
the line is SENDING; every step keeps the one so, and the other so. -/
def Obligations.EveryStepSettlesTheList : Prop :=
  ∀ s t : State, step s = .next t → (s.settled → t.settled) ∧ (s.holdsLine → t.holdsLine)

/-- The state after reset meets every invariant stated here. -/
def Obligations.ResetMeetsTheInvariants : Prop :=
  State.reset.countersBounded ∧ State.reset.bounded ∧ State.reset.loadBalanced ∧ State.reset.Safe ∧
    State.reset.settled ∧ State.reset.holdsLine ∧ State.reset.HasResetValues

/-- The mode changes only as the modes chapter lets it: by reset and RESTART, the store read, PLAY, STOP, quiescence, HALT, a
supply or thermal sample that silences, and CLEAR. -/
def Obligations.ModesChangeByTheirEventsAlone : Prop :=
  ∀ (c : Instr) (s t : State), exec c s = .next t → t.mode ≠ s.mode →
    (t.mode = .loading ∧
      ((∃ now straps, c = .reset now straps ∨ c = .restart now straps) ∨
        (s.mode = .unvoiced ∧ ∃ now straps bits o, c = .frameDelivery now straps bits o))) ∨
    (s.mode = .loading ∧ (t.mode = .standby ∨ t.mode = .unvoiced) ∧ ∃ now a b, c = .storeRead now a b) ∨
    ((s.mode = .standby ∨ s.mode = .winddown) ∧ t.mode = .play ∧ ∃ now, c = .play now) ∨
    (s.mode = .play ∧ (t.mode = .winddown ∨ t.mode = .standby) ∧ ∃ now, c = .stop now) ∨
    (s.mode = .winddown ∧ t.mode = .standby ∧ t.quiescent = true) ∨
    (t.mode = .silenced ∧
      ((∃ now, c = .halt now) ∨ (∃ now v, c = .supplySample now v) ∨ (∃ now v, c = .temperatureSample now v))) ∨
    (s.mode = .silenced ∧ t.mode = .standby ∧ t.stationCause = false ∧ ∃ now, c = .clear now)

/-- The condition byte is the mode code and the indications FAULT, WARN, SUPPLY, LINK and SCHED, each set while what it tells
holds. Every change of the condition byte by an event that leaves the station in STANDBY, PLAY, WINDDOWN or SILENCED leaves a
NOTICE with the byte after the change, QUEUED in its slot or held while the slot is SENDING. -/
def Obligations.EveryConditionChangeIsNoticed : Prop :=
  ∀ (c : Instr) (s t : State),
    (s.conditionByte.toNat / 32 =
        (match s.mode with
         | .loading => 0 | .unvoiced => 1 | .standby => 2 | .play => 3 | .winddown => 4 | .silenced => 5) ∧
      (s.conditionByte.toNat.testBit 4 = true ↔
        s.prot.uvFault = true ∨ s.prot.ovsFault = true ∨ s.prot.halt = true ∨
          (∃ cl : Cluster, (s.prot.clusters.get cl).level = .shutdown) ∨
          (∃ k : Driver, (s.key k).stroke = .faulted) ∨ ∃ p : Pedal, (s.pedal p).state = .faulted) ∧
      (s.conditionByte.toNat.testBit 3 = true ↔
        s.prot.uvWarning = true ∨ s.prot.ovsWarning = true ∨ s.prot.ovw.present = true ∨
          (∃ k : Driver, (s.key k).openWarning = true) ∨
          ∃ cl : Cluster, (s.prot.clusters.get cl).level = .warm ∨ (s.prot.clusters.get cl).level = .hot) ∧
      (s.conditionByte.toNat.testBit 2 = true ↔
        s.prot.uv.present = true ∨ s.prot.ovw.present = true ∨ s.prot.ovs.present = true) ∧
      (s.conditionByte.toNat.testBit 1 = true ↔ s.link.muted = true ∨ s.control.lossMark = true) ∧
      (s.conditionByte.toNat.testBit 0 = true ↔ s.control.dropMark = true)) ∧
    (exec c s = .next t → t.mode.active = true → t.conditionByte ≠ s.conditionByte →
    t.noticeStands t.conditionByte)
end

