-- ==== Sys2Proof/Laws/State.lean ====
section
/-! SUPPORT. What each update of a block of the state leaves of every field, one lemma per field per update. -/

namespace Sys2Proof.Machine

@[simp] theorem State.setNow_now (s : State) (x : Time) : (s.setNow x).now = x := rfl
@[simp] theorem State.setNow_number (s : State) (x : Time) : (s.setNow x).number = s.number := rfl
@[simp] theorem State.setNow_mode (s : State) (x : Time) : (s.setNow x).mode = s.mode := rfl
@[simp] theorem State.setNow_voicing (s : State) (x : Time) : (s.setNow x).voicing = s.voicing := rfl
@[simp] theorem State.setNow_scan (s : State) (x : Time) : (s.setNow x).scan = s.scan := rfl
@[simp] theorem State.setNow_tracks (s : State) (x : Time) : (s.setNow x).tracks = s.tracks := rfl
@[simp] theorem State.setNow_shade (s : State) (x : Time) : (s.setNow x).shade = s.shade := rfl
@[simp] theorem State.setNow_notes (s : State) (x : Time) : (s.setNow x).notes = s.notes := rfl
@[simp] theorem State.setNow_keys (s : State) (x : Time) : (s.setNow x).keys = s.keys := rfl
@[simp] theorem State.setNow_pedals (s : State) (x : Time) : (s.setNow x).pedals = s.pedals := rfl
@[simp] theorem State.setNow_share (s : State) (x : Time) : (s.setNow x).share = s.share := rfl
@[simp] theorem State.setNow_prot (s : State) (x : Time) : (s.setNow x).prot = s.prot := rfl
@[simp] theorem State.setNow_conv (s : State) (x : Time) : (s.setNow x).conv = s.conv := rfl
@[simp] theorem State.setNow_link (s : State) (x : Time) : (s.setNow x).link = s.link := rfl
@[simp] theorem State.setNow_control (s : State) (x : Time) : (s.setNow x).control = s.control := rfl
@[simp] theorem State.setNow_counters (s : State) (x : Time) : (s.setNow x).counters = s.counters := rfl
@[simp] theorem State.setNow_pending (s : State) (x : Time) : (s.setNow x).pending = s.pending := rfl

@[simp] theorem State.setMode_now (s : State) (x : Mode) : (s.setMode x).now = s.now := rfl
@[simp] theorem State.setMode_number (s : State) (x : Mode) : (s.setMode x).number = s.number := rfl
@[simp] theorem State.setMode_mode (s : State) (x : Mode) : (s.setMode x).mode = x := rfl
@[simp] theorem State.setMode_voicing (s : State) (x : Mode) : (s.setMode x).voicing = s.voicing := rfl
@[simp] theorem State.setMode_scan (s : State) (x : Mode) : (s.setMode x).scan = s.scan := rfl
@[simp] theorem State.setMode_tracks (s : State) (x : Mode) : (s.setMode x).tracks = s.tracks := rfl
@[simp] theorem State.setMode_shade (s : State) (x : Mode) : (s.setMode x).shade = s.shade := rfl
@[simp] theorem State.setMode_notes (s : State) (x : Mode) : (s.setMode x).notes = s.notes := rfl
@[simp] theorem State.setMode_keys (s : State) (x : Mode) : (s.setMode x).keys = s.keys := rfl
@[simp] theorem State.setMode_pedals (s : State) (x : Mode) : (s.setMode x).pedals = s.pedals := rfl
@[simp] theorem State.setMode_share (s : State) (x : Mode) : (s.setMode x).share = s.share := rfl
@[simp] theorem State.setMode_prot (s : State) (x : Mode) : (s.setMode x).prot = s.prot := rfl
@[simp] theorem State.setMode_conv (s : State) (x : Mode) : (s.setMode x).conv = s.conv := rfl
@[simp] theorem State.setMode_link (s : State) (x : Mode) : (s.setMode x).link = s.link := rfl
@[simp] theorem State.setMode_control (s : State) (x : Mode) : (s.setMode x).control = s.control := rfl
@[simp] theorem State.setMode_counters (s : State) (x : Mode) : (s.setMode x).counters = s.counters := rfl
@[simp] theorem State.setMode_pending (s : State) (x : Mode) : (s.setMode x).pending = s.pending := rfl

@[simp] theorem State.setScan_now (s : State) (x : Scan) : (s.setScan x).now = s.now := rfl
@[simp] theorem State.setScan_number (s : State) (x : Scan) : (s.setScan x).number = s.number := rfl
@[simp] theorem State.setScan_mode (s : State) (x : Scan) : (s.setScan x).mode = s.mode := rfl
@[simp] theorem State.setScan_voicing (s : State) (x : Scan) : (s.setScan x).voicing = s.voicing := rfl
@[simp] theorem State.setScan_scan (s : State) (x : Scan) : (s.setScan x).scan = x := rfl
@[simp] theorem State.setScan_tracks (s : State) (x : Scan) : (s.setScan x).tracks = s.tracks := rfl
@[simp] theorem State.setScan_shade (s : State) (x : Scan) : (s.setScan x).shade = s.shade := rfl
@[simp] theorem State.setScan_notes (s : State) (x : Scan) : (s.setScan x).notes = s.notes := rfl
@[simp] theorem State.setScan_keys (s : State) (x : Scan) : (s.setScan x).keys = s.keys := rfl
@[simp] theorem State.setScan_pedals (s : State) (x : Scan) : (s.setScan x).pedals = s.pedals := rfl
@[simp] theorem State.setScan_share (s : State) (x : Scan) : (s.setScan x).share = s.share := rfl
@[simp] theorem State.setScan_prot (s : State) (x : Scan) : (s.setScan x).prot = s.prot := rfl
@[simp] theorem State.setScan_conv (s : State) (x : Scan) : (s.setScan x).conv = s.conv := rfl
@[simp] theorem State.setScan_link (s : State) (x : Scan) : (s.setScan x).link = s.link := rfl
@[simp] theorem State.setScan_control (s : State) (x : Scan) : (s.setScan x).control = s.control := rfl
@[simp] theorem State.setScan_counters (s : State) (x : Scan) : (s.setScan x).counters = s.counters := rfl
@[simp] theorem State.setScan_pending (s : State) (x : Scan) : (s.setScan x).pending = s.pending := rfl

@[simp] theorem State.setTracks_now (s : State) (x : Vector Track 24) : (s.setTracks x).now = s.now := rfl
@[simp] theorem State.setTracks_number (s : State) (x : Vector Track 24) : (s.setTracks x).number = s.number := rfl
@[simp] theorem State.setTracks_mode (s : State) (x : Vector Track 24) : (s.setTracks x).mode = s.mode := rfl
@[simp] theorem State.setTracks_voicing (s : State) (x : Vector Track 24) : (s.setTracks x).voicing = s.voicing := rfl
@[simp] theorem State.setTracks_scan (s : State) (x : Vector Track 24) : (s.setTracks x).scan = s.scan := rfl
@[simp] theorem State.setTracks_tracks (s : State) (x : Vector Track 24) : (s.setTracks x).tracks = x := rfl
@[simp] theorem State.setTracks_shade (s : State) (x : Vector Track 24) : (s.setTracks x).shade = s.shade := rfl
@[simp] theorem State.setTracks_notes (s : State) (x : Vector Track 24) : (s.setTracks x).notes = s.notes := rfl
@[simp] theorem State.setTracks_keys (s : State) (x : Vector Track 24) : (s.setTracks x).keys = s.keys := rfl
@[simp] theorem State.setTracks_pedals (s : State) (x : Vector Track 24) : (s.setTracks x).pedals = s.pedals := rfl
@[simp] theorem State.setTracks_share (s : State) (x : Vector Track 24) : (s.setTracks x).share = s.share := rfl
@[simp] theorem State.setTracks_prot (s : State) (x : Vector Track 24) : (s.setTracks x).prot = s.prot := rfl
@[simp] theorem State.setTracks_conv (s : State) (x : Vector Track 24) : (s.setTracks x).conv = s.conv := rfl
@[simp] theorem State.setTracks_link (s : State) (x : Vector Track 24) : (s.setTracks x).link = s.link := rfl
@[simp] theorem State.setTracks_control (s : State) (x : Vector Track 24) : (s.setTracks x).control = s.control := rfl
@[simp] theorem State.setTracks_counters (s : State) (x : Vector Track 24) : (s.setTracks x).counters = s.counters := rfl
@[simp] theorem State.setTracks_pending (s : State) (x : Vector Track 24) : (s.setTracks x).pending = s.pending := rfl

@[simp] theorem State.setShade_now (s : State) (x : Shade) : (s.setShade x).now = s.now := rfl
@[simp] theorem State.setShade_number (s : State) (x : Shade) : (s.setShade x).number = s.number := rfl
@[simp] theorem State.setShade_mode (s : State) (x : Shade) : (s.setShade x).mode = s.mode := rfl
@[simp] theorem State.setShade_voicing (s : State) (x : Shade) : (s.setShade x).voicing = s.voicing := rfl
@[simp] theorem State.setShade_scan (s : State) (x : Shade) : (s.setShade x).scan = s.scan := rfl
@[simp] theorem State.setShade_tracks (s : State) (x : Shade) : (s.setShade x).tracks = s.tracks := rfl
@[simp] theorem State.setShade_shade (s : State) (x : Shade) : (s.setShade x).shade = x := rfl
@[simp] theorem State.setShade_notes (s : State) (x : Shade) : (s.setShade x).notes = s.notes := rfl
@[simp] theorem State.setShade_keys (s : State) (x : Shade) : (s.setShade x).keys = s.keys := rfl
@[simp] theorem State.setShade_pedals (s : State) (x : Shade) : (s.setShade x).pedals = s.pedals := rfl
@[simp] theorem State.setShade_share (s : State) (x : Shade) : (s.setShade x).share = s.share := rfl
@[simp] theorem State.setShade_prot (s : State) (x : Shade) : (s.setShade x).prot = s.prot := rfl
@[simp] theorem State.setShade_conv (s : State) (x : Shade) : (s.setShade x).conv = s.conv := rfl
@[simp] theorem State.setShade_link (s : State) (x : Shade) : (s.setShade x).link = s.link := rfl
@[simp] theorem State.setShade_control (s : State) (x : Shade) : (s.setShade x).control = s.control := rfl
@[simp] theorem State.setShade_counters (s : State) (x : Shade) : (s.setShade x).counters = s.counters := rfl
@[simp] theorem State.setShade_pending (s : State) (x : Shade) : (s.setShade x).pending = s.pending := rfl

@[simp] theorem State.setNotes_now (s : State) (x : List Note) : (s.setNotes x).now = s.now := rfl
@[simp] theorem State.setNotes_number (s : State) (x : List Note) : (s.setNotes x).number = s.number := rfl
@[simp] theorem State.setNotes_mode (s : State) (x : List Note) : (s.setNotes x).mode = s.mode := rfl
@[simp] theorem State.setNotes_voicing (s : State) (x : List Note) : (s.setNotes x).voicing = s.voicing := rfl
@[simp] theorem State.setNotes_scan (s : State) (x : List Note) : (s.setNotes x).scan = s.scan := rfl
@[simp] theorem State.setNotes_tracks (s : State) (x : List Note) : (s.setNotes x).tracks = s.tracks := rfl
@[simp] theorem State.setNotes_shade (s : State) (x : List Note) : (s.setNotes x).shade = s.shade := rfl
@[simp] theorem State.setNotes_notes (s : State) (x : List Note) : (s.setNotes x).notes = x := rfl
@[simp] theorem State.setNotes_keys (s : State) (x : List Note) : (s.setNotes x).keys = s.keys := rfl
@[simp] theorem State.setNotes_pedals (s : State) (x : List Note) : (s.setNotes x).pedals = s.pedals := rfl
@[simp] theorem State.setNotes_share (s : State) (x : List Note) : (s.setNotes x).share = s.share := rfl
@[simp] theorem State.setNotes_prot (s : State) (x : List Note) : (s.setNotes x).prot = s.prot := rfl
@[simp] theorem State.setNotes_conv (s : State) (x : List Note) : (s.setNotes x).conv = s.conv := rfl
@[simp] theorem State.setNotes_link (s : State) (x : List Note) : (s.setNotes x).link = s.link := rfl
@[simp] theorem State.setNotes_control (s : State) (x : List Note) : (s.setNotes x).control = s.control := rfl
@[simp] theorem State.setNotes_counters (s : State) (x : List Note) : (s.setNotes x).counters = s.counters := rfl
@[simp] theorem State.setNotes_pending (s : State) (x : List Note) : (s.setNotes x).pending = s.pending := rfl

@[simp] theorem State.setKeys_now (s : State) (x : Vector Key 12) : (s.setKeys x).now = s.now := rfl
@[simp] theorem State.setKeys_number (s : State) (x : Vector Key 12) : (s.setKeys x).number = s.number := rfl
@[simp] theorem State.setKeys_mode (s : State) (x : Vector Key 12) : (s.setKeys x).mode = s.mode := rfl
@[simp] theorem State.setKeys_voicing (s : State) (x : Vector Key 12) : (s.setKeys x).voicing = s.voicing := rfl
@[simp] theorem State.setKeys_scan (s : State) (x : Vector Key 12) : (s.setKeys x).scan = s.scan := rfl
@[simp] theorem State.setKeys_tracks (s : State) (x : Vector Key 12) : (s.setKeys x).tracks = s.tracks := rfl
@[simp] theorem State.setKeys_shade (s : State) (x : Vector Key 12) : (s.setKeys x).shade = s.shade := rfl
@[simp] theorem State.setKeys_notes (s : State) (x : Vector Key 12) : (s.setKeys x).notes = s.notes := rfl
@[simp] theorem State.setKeys_keys (s : State) (x : Vector Key 12) : (s.setKeys x).keys = x := rfl
@[simp] theorem State.setKeys_pedals (s : State) (x : Vector Key 12) : (s.setKeys x).pedals = s.pedals := rfl
@[simp] theorem State.setKeys_share (s : State) (x : Vector Key 12) : (s.setKeys x).share = s.share := rfl
@[simp] theorem State.setKeys_prot (s : State) (x : Vector Key 12) : (s.setKeys x).prot = s.prot := rfl
@[simp] theorem State.setKeys_conv (s : State) (x : Vector Key 12) : (s.setKeys x).conv = s.conv := rfl
@[simp] theorem State.setKeys_link (s : State) (x : Vector Key 12) : (s.setKeys x).link = s.link := rfl
@[simp] theorem State.setKeys_control (s : State) (x : Vector Key 12) : (s.setKeys x).control = s.control := rfl
@[simp] theorem State.setKeys_counters (s : State) (x : Vector Key 12) : (s.setKeys x).counters = s.counters := rfl
@[simp] theorem State.setKeys_pending (s : State) (x : Vector Key 12) : (s.setKeys x).pending = s.pending := rfl

@[simp] theorem State.setPedals_now (s : State) (x : Pedals) : (s.setPedals x).now = s.now := rfl
@[simp] theorem State.setPedals_number (s : State) (x : Pedals) : (s.setPedals x).number = s.number := rfl
@[simp] theorem State.setPedals_mode (s : State) (x : Pedals) : (s.setPedals x).mode = s.mode := rfl
@[simp] theorem State.setPedals_voicing (s : State) (x : Pedals) : (s.setPedals x).voicing = s.voicing := rfl
@[simp] theorem State.setPedals_scan (s : State) (x : Pedals) : (s.setPedals x).scan = s.scan := rfl
@[simp] theorem State.setPedals_tracks (s : State) (x : Pedals) : (s.setPedals x).tracks = s.tracks := rfl
@[simp] theorem State.setPedals_shade (s : State) (x : Pedals) : (s.setPedals x).shade = s.shade := rfl
@[simp] theorem State.setPedals_notes (s : State) (x : Pedals) : (s.setPedals x).notes = s.notes := rfl
@[simp] theorem State.setPedals_keys (s : State) (x : Pedals) : (s.setPedals x).keys = s.keys := rfl
@[simp] theorem State.setPedals_pedals (s : State) (x : Pedals) : (s.setPedals x).pedals = x := rfl
@[simp] theorem State.setPedals_share (s : State) (x : Pedals) : (s.setPedals x).share = s.share := rfl
@[simp] theorem State.setPedals_prot (s : State) (x : Pedals) : (s.setPedals x).prot = s.prot := rfl
@[simp] theorem State.setPedals_conv (s : State) (x : Pedals) : (s.setPedals x).conv = s.conv := rfl
@[simp] theorem State.setPedals_link (s : State) (x : Pedals) : (s.setPedals x).link = s.link := rfl
@[simp] theorem State.setPedals_control (s : State) (x : Pedals) : (s.setPedals x).control = s.control := rfl
@[simp] theorem State.setPedals_counters (s : State) (x : Pedals) : (s.setPedals x).counters = s.counters := rfl
@[simp] theorem State.setPedals_pending (s : State) (x : Pedals) : (s.setPedals x).pending = s.pending := rfl

@[simp] theorem State.setShare_now (s : State) (x : Share) : (s.setShare x).now = s.now := rfl
@[simp] theorem State.setShare_number (s : State) (x : Share) : (s.setShare x).number = s.number := rfl
@[simp] theorem State.setShare_mode (s : State) (x : Share) : (s.setShare x).mode = s.mode := rfl
@[simp] theorem State.setShare_voicing (s : State) (x : Share) : (s.setShare x).voicing = s.voicing := rfl
@[simp] theorem State.setShare_scan (s : State) (x : Share) : (s.setShare x).scan = s.scan := rfl
@[simp] theorem State.setShare_tracks (s : State) (x : Share) : (s.setShare x).tracks = s.tracks := rfl
@[simp] theorem State.setShare_shade (s : State) (x : Share) : (s.setShare x).shade = s.shade := rfl
@[simp] theorem State.setShare_notes (s : State) (x : Share) : (s.setShare x).notes = s.notes := rfl
@[simp] theorem State.setShare_keys (s : State) (x : Share) : (s.setShare x).keys = s.keys := rfl
@[simp] theorem State.setShare_pedals (s : State) (x : Share) : (s.setShare x).pedals = s.pedals := rfl
@[simp] theorem State.setShare_share (s : State) (x : Share) : (s.setShare x).share = x := rfl
@[simp] theorem State.setShare_prot (s : State) (x : Share) : (s.setShare x).prot = s.prot := rfl
@[simp] theorem State.setShare_conv (s : State) (x : Share) : (s.setShare x).conv = s.conv := rfl
@[simp] theorem State.setShare_link (s : State) (x : Share) : (s.setShare x).link = s.link := rfl
@[simp] theorem State.setShare_control (s : State) (x : Share) : (s.setShare x).control = s.control := rfl
@[simp] theorem State.setShare_counters (s : State) (x : Share) : (s.setShare x).counters = s.counters := rfl
@[simp] theorem State.setShare_pending (s : State) (x : Share) : (s.setShare x).pending = s.pending := rfl

@[simp] theorem State.setProt_now (s : State) (x : Protection) : (s.setProt x).now = s.now := rfl
@[simp] theorem State.setProt_number (s : State) (x : Protection) : (s.setProt x).number = s.number := rfl
@[simp] theorem State.setProt_mode (s : State) (x : Protection) : (s.setProt x).mode = s.mode := rfl
@[simp] theorem State.setProt_voicing (s : State) (x : Protection) : (s.setProt x).voicing = s.voicing := rfl
@[simp] theorem State.setProt_scan (s : State) (x : Protection) : (s.setProt x).scan = s.scan := rfl
@[simp] theorem State.setProt_tracks (s : State) (x : Protection) : (s.setProt x).tracks = s.tracks := rfl
@[simp] theorem State.setProt_shade (s : State) (x : Protection) : (s.setProt x).shade = s.shade := rfl
@[simp] theorem State.setProt_notes (s : State) (x : Protection) : (s.setProt x).notes = s.notes := rfl
@[simp] theorem State.setProt_keys (s : State) (x : Protection) : (s.setProt x).keys = s.keys := rfl
@[simp] theorem State.setProt_pedals (s : State) (x : Protection) : (s.setProt x).pedals = s.pedals := rfl
@[simp] theorem State.setProt_share (s : State) (x : Protection) : (s.setProt x).share = s.share := rfl
@[simp] theorem State.setProt_prot (s : State) (x : Protection) : (s.setProt x).prot = x := rfl
@[simp] theorem State.setProt_conv (s : State) (x : Protection) : (s.setProt x).conv = s.conv := rfl
@[simp] theorem State.setProt_link (s : State) (x : Protection) : (s.setProt x).link = s.link := rfl
@[simp] theorem State.setProt_control (s : State) (x : Protection) : (s.setProt x).control = s.control := rfl
@[simp] theorem State.setProt_counters (s : State) (x : Protection) : (s.setProt x).counters = s.counters := rfl
@[simp] theorem State.setProt_pending (s : State) (x : Protection) : (s.setProt x).pending = s.pending := rfl

@[simp] theorem State.setConv_now (s : State) (x : Converter) : (s.setConv x).now = s.now := rfl
@[simp] theorem State.setConv_number (s : State) (x : Converter) : (s.setConv x).number = s.number := rfl
@[simp] theorem State.setConv_mode (s : State) (x : Converter) : (s.setConv x).mode = s.mode := rfl
@[simp] theorem State.setConv_voicing (s : State) (x : Converter) : (s.setConv x).voicing = s.voicing := rfl
@[simp] theorem State.setConv_scan (s : State) (x : Converter) : (s.setConv x).scan = s.scan := rfl
@[simp] theorem State.setConv_tracks (s : State) (x : Converter) : (s.setConv x).tracks = s.tracks := rfl
@[simp] theorem State.setConv_shade (s : State) (x : Converter) : (s.setConv x).shade = s.shade := rfl
@[simp] theorem State.setConv_notes (s : State) (x : Converter) : (s.setConv x).notes = s.notes := rfl
@[simp] theorem State.setConv_keys (s : State) (x : Converter) : (s.setConv x).keys = s.keys := rfl
@[simp] theorem State.setConv_pedals (s : State) (x : Converter) : (s.setConv x).pedals = s.pedals := rfl
@[simp] theorem State.setConv_share (s : State) (x : Converter) : (s.setConv x).share = s.share := rfl
@[simp] theorem State.setConv_prot (s : State) (x : Converter) : (s.setConv x).prot = s.prot := rfl
@[simp] theorem State.setConv_conv (s : State) (x : Converter) : (s.setConv x).conv = x := rfl
@[simp] theorem State.setConv_link (s : State) (x : Converter) : (s.setConv x).link = s.link := rfl
@[simp] theorem State.setConv_control (s : State) (x : Converter) : (s.setConv x).control = s.control := rfl
@[simp] theorem State.setConv_counters (s : State) (x : Converter) : (s.setConv x).counters = s.counters := rfl
@[simp] theorem State.setConv_pending (s : State) (x : Converter) : (s.setConv x).pending = s.pending := rfl

@[simp] theorem State.setLink_now (s : State) (x : Link) : (s.setLink x).now = s.now := rfl
@[simp] theorem State.setLink_number (s : State) (x : Link) : (s.setLink x).number = s.number := rfl
@[simp] theorem State.setLink_mode (s : State) (x : Link) : (s.setLink x).mode = s.mode := rfl
@[simp] theorem State.setLink_voicing (s : State) (x : Link) : (s.setLink x).voicing = s.voicing := rfl
@[simp] theorem State.setLink_scan (s : State) (x : Link) : (s.setLink x).scan = s.scan := rfl
@[simp] theorem State.setLink_tracks (s : State) (x : Link) : (s.setLink x).tracks = s.tracks := rfl
@[simp] theorem State.setLink_shade (s : State) (x : Link) : (s.setLink x).shade = s.shade := rfl
@[simp] theorem State.setLink_notes (s : State) (x : Link) : (s.setLink x).notes = s.notes := rfl
@[simp] theorem State.setLink_keys (s : State) (x : Link) : (s.setLink x).keys = s.keys := rfl
@[simp] theorem State.setLink_pedals (s : State) (x : Link) : (s.setLink x).pedals = s.pedals := rfl
@[simp] theorem State.setLink_share (s : State) (x : Link) : (s.setLink x).share = s.share := rfl
@[simp] theorem State.setLink_prot (s : State) (x : Link) : (s.setLink x).prot = s.prot := rfl
@[simp] theorem State.setLink_conv (s : State) (x : Link) : (s.setLink x).conv = s.conv := rfl
@[simp] theorem State.setLink_link (s : State) (x : Link) : (s.setLink x).link = x := rfl
@[simp] theorem State.setLink_control (s : State) (x : Link) : (s.setLink x).control = s.control := rfl
@[simp] theorem State.setLink_counters (s : State) (x : Link) : (s.setLink x).counters = s.counters := rfl
@[simp] theorem State.setLink_pending (s : State) (x : Link) : (s.setLink x).pending = s.pending := rfl

@[simp] theorem State.setControl_now (s : State) (x : Control) : (s.setControl x).now = s.now := rfl
@[simp] theorem State.setControl_number (s : State) (x : Control) : (s.setControl x).number = s.number := rfl
@[simp] theorem State.setControl_mode (s : State) (x : Control) : (s.setControl x).mode = s.mode := rfl
@[simp] theorem State.setControl_voicing (s : State) (x : Control) : (s.setControl x).voicing = s.voicing := rfl
@[simp] theorem State.setControl_scan (s : State) (x : Control) : (s.setControl x).scan = s.scan := rfl
@[simp] theorem State.setControl_tracks (s : State) (x : Control) : (s.setControl x).tracks = s.tracks := rfl
@[simp] theorem State.setControl_shade (s : State) (x : Control) : (s.setControl x).shade = s.shade := rfl
@[simp] theorem State.setControl_notes (s : State) (x : Control) : (s.setControl x).notes = s.notes := rfl
@[simp] theorem State.setControl_keys (s : State) (x : Control) : (s.setControl x).keys = s.keys := rfl
@[simp] theorem State.setControl_pedals (s : State) (x : Control) : (s.setControl x).pedals = s.pedals := rfl
@[simp] theorem State.setControl_share (s : State) (x : Control) : (s.setControl x).share = s.share := rfl
@[simp] theorem State.setControl_prot (s : State) (x : Control) : (s.setControl x).prot = s.prot := rfl
@[simp] theorem State.setControl_conv (s : State) (x : Control) : (s.setControl x).conv = s.conv := rfl
@[simp] theorem State.setControl_link (s : State) (x : Control) : (s.setControl x).link = s.link := rfl
@[simp] theorem State.setControl_control (s : State) (x : Control) : (s.setControl x).control = x := rfl
@[simp] theorem State.setControl_counters (s : State) (x : Control) : (s.setControl x).counters = s.counters := rfl
@[simp] theorem State.setControl_pending (s : State) (x : Control) : (s.setControl x).pending = s.pending := rfl

@[simp] theorem State.setCounters_now (s : State) (x : Counters) : (s.setCounters x).now = s.now := rfl
@[simp] theorem State.setCounters_number (s : State) (x : Counters) : (s.setCounters x).number = s.number := rfl
@[simp] theorem State.setCounters_mode (s : State) (x : Counters) : (s.setCounters x).mode = s.mode := rfl
@[simp] theorem State.setCounters_voicing (s : State) (x : Counters) : (s.setCounters x).voicing = s.voicing := rfl
@[simp] theorem State.setCounters_scan (s : State) (x : Counters) : (s.setCounters x).scan = s.scan := rfl
@[simp] theorem State.setCounters_tracks (s : State) (x : Counters) : (s.setCounters x).tracks = s.tracks := rfl
@[simp] theorem State.setCounters_shade (s : State) (x : Counters) : (s.setCounters x).shade = s.shade := rfl
@[simp] theorem State.setCounters_notes (s : State) (x : Counters) : (s.setCounters x).notes = s.notes := rfl
@[simp] theorem State.setCounters_keys (s : State) (x : Counters) : (s.setCounters x).keys = s.keys := rfl
@[simp] theorem State.setCounters_pedals (s : State) (x : Counters) : (s.setCounters x).pedals = s.pedals := rfl
@[simp] theorem State.setCounters_share (s : State) (x : Counters) : (s.setCounters x).share = s.share := rfl
@[simp] theorem State.setCounters_prot (s : State) (x : Counters) : (s.setCounters x).prot = s.prot := rfl
@[simp] theorem State.setCounters_conv (s : State) (x : Counters) : (s.setCounters x).conv = s.conv := rfl
@[simp] theorem State.setCounters_link (s : State) (x : Counters) : (s.setCounters x).link = s.link := rfl
@[simp] theorem State.setCounters_control (s : State) (x : Counters) : (s.setCounters x).control = s.control := rfl
@[simp] theorem State.setCounters_counters (s : State) (x : Counters) : (s.setCounters x).counters = x := rfl
@[simp] theorem State.setCounters_pending (s : State) (x : Counters) : (s.setCounters x).pending = s.pending := rfl

end Sys2Proof.Machine
end

