-- ==== Sys2Proof/Laws/Ops.lean ====
section
/-! SUPPORT. What each operation of Machine/Ops.lean leaves as it was: every part of the state but those its rules change. -/

namespace Sys2Proof.Machine

/-- A fold of operations that each leave something as it was leaves it as it was. -/
theorem foldl_keeps {α β : Type} (g : State → β) (f : State → α → State) (h : ∀ s a, g (f s a) = g s) (l : List α)
    (s : State) : g (l.foldl f s) = g s := by
  induction l generalizing s with
  | nil => rfl
  | cons a l ih => rw [List.foldl_cons, ih, h]

@[simp] theorem State.setHalf_keeps (s : State) (x : HalfShade) (h : Half) :
    (s.setHalf x h).now = s.now ∧ (s.setHalf x h).number = s.number ∧ (s.setHalf x h).mode = s.mode ∧
    (s.setHalf x h).voicing = s.voicing ∧ (s.setHalf x h).scan = s.scan ∧ (s.setHalf x h).tracks = s.tracks ∧
    (s.setHalf x h).notes = s.notes ∧ (s.setHalf x h).keys = s.keys ∧ (s.setHalf x h).pedals = s.pedals ∧
    (s.setHalf x h).share = s.share ∧ (s.setHalf x h).prot = s.prot ∧ (s.setHalf x h).conv = s.conv ∧
    (s.setHalf x h).link = s.link ∧ (s.setHalf x h).control = s.control ∧ (s.setHalf x h).counters = s.counters ∧
    (s.setHalf x h).pending = s.pending := by
  simp only [State.setHalf]
  (repeat' split) <;> simp

@[simp] theorem State.setKey_keeps (s : State) (k : Driver) (x : Key) :
    (s.setKey k x).now = s.now ∧ (s.setKey k x).number = s.number ∧ (s.setKey k x).mode = s.mode ∧
    (s.setKey k x).voicing = s.voicing ∧ (s.setKey k x).scan = s.scan ∧ (s.setKey k x).tracks = s.tracks ∧
    (s.setKey k x).shade = s.shade ∧ (s.setKey k x).notes = s.notes ∧ (s.setKey k x).pedals = s.pedals ∧
    (s.setKey k x).share = s.share ∧ (s.setKey k x).prot = s.prot ∧ (s.setKey k x).conv = s.conv ∧
    (s.setKey k x).link = s.link ∧ (s.setKey k x).control = s.control ∧ (s.setKey k x).counters = s.counters ∧
    (s.setKey k x).pending = s.pending := by
  simp only [State.setKey]
  (repeat' split) <;> simp

@[simp] theorem State.setPedal_keeps (s : State) (x : PedalDrive) (p : Pedal) :
    (s.setPedal x p).now = s.now ∧ (s.setPedal x p).number = s.number ∧ (s.setPedal x p).mode = s.mode ∧
    (s.setPedal x p).voicing = s.voicing ∧ (s.setPedal x p).scan = s.scan ∧ (s.setPedal x p).tracks = s.tracks ∧
    (s.setPedal x p).shade = s.shade ∧ (s.setPedal x p).notes = s.notes ∧ (s.setPedal x p).keys = s.keys ∧
    (s.setPedal x p).share = s.share ∧ (s.setPedal x p).prot = s.prot ∧ (s.setPedal x p).conv = s.conv ∧
    (s.setPedal x p).link = s.link ∧ (s.setPedal x p).control = s.control ∧ (s.setPedal x p).counters = s.counters ∧
    (s.setPedal x p).pending = s.pending := by
  simp only [State.setPedal]
  (repeat' split) <;> simp

@[simp] theorem State.setClaimSlot_keeps (s : State) (x : ClaimSlot) (c : ClaimId) :
    (s.setClaimSlot x c).now = s.now ∧ (s.setClaimSlot x c).number = s.number ∧ (s.setClaimSlot x c).mode = s.mode ∧
    (s.setClaimSlot x c).voicing = s.voicing ∧ (s.setClaimSlot x c).scan = s.scan ∧
    (s.setClaimSlot x c).tracks = s.tracks ∧ (s.setClaimSlot x c).shade = s.shade ∧
    (s.setClaimSlot x c).notes = s.notes ∧ (s.setClaimSlot x c).keys = s.keys ∧
    (s.setClaimSlot x c).pedals = s.pedals ∧ (s.setClaimSlot x c).prot = s.prot ∧
    (s.setClaimSlot x c).conv = s.conv ∧ (s.setClaimSlot x c).link = s.link ∧
    (s.setClaimSlot x c).control = s.control ∧ (s.setClaimSlot x c).counters = s.counters ∧
    (s.setClaimSlot x c).pending = s.pending := by
  simp only [State.setClaimSlot]
  (repeat' split) <;> simp

@[simp] theorem State.setSlot_keeps (s : State) (i : Slot) (x : OutSlot) :
    (s.setSlot i x).now = s.now ∧ (s.setSlot i x).number = s.number ∧ (s.setSlot i x).mode = s.mode ∧
    (s.setSlot i x).voicing = s.voicing ∧ (s.setSlot i x).scan = s.scan ∧ (s.setSlot i x).tracks = s.tracks ∧
    (s.setSlot i x).shade = s.shade ∧ (s.setSlot i x).notes = s.notes ∧ (s.setSlot i x).keys = s.keys ∧
    (s.setSlot i x).pedals = s.pedals ∧ (s.setSlot i x).share = s.share ∧ (s.setSlot i x).prot = s.prot ∧
    (s.setSlot i x).conv = s.conv ∧ (s.setSlot i x).control = s.control ∧ (s.setSlot i x).counters = s.counters ∧
    (s.setSlot i x).pending = s.pending := by
  simp only [State.setSlot]
  (repeat' split) <;> simp

@[simp] theorem State.count_keeps (s : State) (i : Counter) :
    (s.count i).now = s.now ∧ (s.count i).number = s.number ∧ (s.count i).mode = s.mode ∧
    (s.count i).voicing = s.voicing ∧ (s.count i).scan = s.scan ∧ (s.count i).tracks = s.tracks ∧
    (s.count i).shade = s.shade ∧ (s.count i).notes = s.notes ∧ (s.count i).keys = s.keys ∧
    (s.count i).pedals = s.pedals ∧ (s.count i).share = s.share ∧ (s.count i).prot = s.prot ∧
    (s.count i).conv = s.conv ∧ (s.count i).link = s.link ∧ (s.count i).control = s.control ∧
    (s.count i).pending = s.pending := by
  simp only [State.count]
  (repeat' split) <;> simp

@[simp] theorem State.countDrop_keeps (s : State) (i : Counter) :
    (s.countDrop i).now = s.now ∧ (s.countDrop i).number = s.number ∧ (s.countDrop i).mode = s.mode ∧
    (s.countDrop i).voicing = s.voicing ∧ (s.countDrop i).scan = s.scan ∧ (s.countDrop i).tracks = s.tracks ∧
    (s.countDrop i).shade = s.shade ∧ (s.countDrop i).notes = s.notes ∧ (s.countDrop i).keys = s.keys ∧
    (s.countDrop i).pedals = s.pedals ∧ (s.countDrop i).share = s.share ∧ (s.countDrop i).prot = s.prot ∧
    (s.countDrop i).conv = s.conv ∧ (s.countDrop i).link = s.link ∧ (s.countDrop i).pending = s.pending := by
  simp only [State.countDrop]
  (repeat' split) <;> simp

@[simp] theorem State.countLoss_keeps (s : State) :
    (s.countLoss).now = s.now ∧ (s.countLoss).number = s.number ∧ (s.countLoss).mode = s.mode ∧
    (s.countLoss).voicing = s.voicing ∧ (s.countLoss).scan = s.scan ∧ (s.countLoss).tracks = s.tracks ∧
    (s.countLoss).shade = s.shade ∧ (s.countLoss).notes = s.notes ∧ (s.countLoss).keys = s.keys ∧
    (s.countLoss).pedals = s.pedals ∧ (s.countLoss).share = s.share ∧ (s.countLoss).prot = s.prot ∧
    (s.countLoss).conv = s.conv ∧ (s.countLoss).link = s.link ∧ (s.countLoss).pending = s.pending := by
  simp only [State.countLoss]
  (repeat' split) <;> simp

@[simp] theorem State.placeNotes_keeps (s : State) (ns : List Note) :
    (s.placeNotes ns).now = s.now ∧ (s.placeNotes ns).number = s.number ∧ (s.placeNotes ns).mode = s.mode ∧
    (s.placeNotes ns).voicing = s.voicing ∧ (s.placeNotes ns).scan = s.scan ∧ (s.placeNotes ns).tracks = s.tracks ∧
    (s.placeNotes ns).shade = s.shade ∧ (s.placeNotes ns).keys = s.keys ∧ (s.placeNotes ns).pedals = s.pedals ∧
    (s.placeNotes ns).share = s.share ∧ (s.placeNotes ns).prot = s.prot ∧ (s.placeNotes ns).conv = s.conv ∧
    (s.placeNotes ns).link = s.link ∧ (s.placeNotes ns).control = s.control ∧
    (s.placeNotes ns).counters = s.counters ∧ (s.placeNotes ns).pending = s.pending := by
  simp only [State.placeNotes]
  (repeat' split) <;> simp

@[simp] theorem State.changeNote_keeps (s : State) (n : Note) (f : Note → Note) :
    (s.changeNote n f).now = s.now ∧ (s.changeNote n f).number = s.number ∧ (s.changeNote n f).mode = s.mode ∧
    (s.changeNote n f).voicing = s.voicing ∧ (s.changeNote n f).scan = s.scan ∧
    (s.changeNote n f).tracks = s.tracks ∧ (s.changeNote n f).shade = s.shade ∧ (s.changeNote n f).keys = s.keys ∧
    (s.changeNote n f).pedals = s.pedals ∧ (s.changeNote n f).share = s.share ∧ (s.changeNote n f).prot = s.prot ∧
    (s.changeNote n f).conv = s.conv ∧ (s.changeNote n f).link = s.link ∧ (s.changeNote n f).control = s.control ∧
    (s.changeNote n f).counters = s.counters ∧ (s.changeNote n f).pending = s.pending := by
  simp only [State.changeNote]
  (repeat' split) <;> simp

@[simp] theorem State.removeNote_keeps (s : State) (n : Note) :
    (s.removeNote n).now = s.now ∧ (s.removeNote n).number = s.number ∧ (s.removeNote n).mode = s.mode ∧
    (s.removeNote n).voicing = s.voicing ∧ (s.removeNote n).scan = s.scan ∧ (s.removeNote n).tracks = s.tracks ∧
    (s.removeNote n).shade = s.shade ∧ (s.removeNote n).keys = s.keys ∧ (s.removeNote n).pedals = s.pedals ∧
    (s.removeNote n).share = s.share ∧ (s.removeNote n).prot = s.prot ∧ (s.removeNote n).conv = s.conv ∧
    (s.removeNote n).link = s.link ∧ (s.removeNote n).control = s.control ∧ (s.removeNote n).counters = s.counters ∧
    (s.removeNote n).pending = s.pending := by
  simp only [State.removeNote]
  (repeat' split) <;> simp

@[simp] theorem State.placeFrame_keeps (s : State) (i : Slot) (frame : Option Payload) :
    (s.placeFrame i frame).now = s.now ∧ (s.placeFrame i frame).number = s.number ∧
    (s.placeFrame i frame).mode = s.mode ∧ (s.placeFrame i frame).voicing = s.voicing ∧
    (s.placeFrame i frame).scan = s.scan ∧ (s.placeFrame i frame).tracks = s.tracks ∧
    (s.placeFrame i frame).shade = s.shade ∧ (s.placeFrame i frame).notes = s.notes ∧
    (s.placeFrame i frame).keys = s.keys ∧ (s.placeFrame i frame).pedals = s.pedals ∧
    (s.placeFrame i frame).share = s.share ∧ (s.placeFrame i frame).prot = s.prot ∧
    (s.placeFrame i frame).conv = s.conv ∧ (s.placeFrame i frame).control = s.control ∧
    (s.placeFrame i frame).counters = s.counters ∧ (s.placeFrame i frame).pending = s.pending := by
  simp only [State.placeFrame]
  (repeat' split) <;> simp

@[simp] theorem State.overwriteFrame_keeps (s : State) (i : Slot) (frame : Payload) :
    (s.overwriteFrame i frame).now = s.now ∧ (s.overwriteFrame i frame).number = s.number ∧
    (s.overwriteFrame i frame).mode = s.mode ∧ (s.overwriteFrame i frame).voicing = s.voicing ∧
    (s.overwriteFrame i frame).scan = s.scan ∧ (s.overwriteFrame i frame).tracks = s.tracks ∧
    (s.overwriteFrame i frame).shade = s.shade ∧ (s.overwriteFrame i frame).notes = s.notes ∧
    (s.overwriteFrame i frame).keys = s.keys ∧ (s.overwriteFrame i frame).pedals = s.pedals ∧
    (s.overwriteFrame i frame).share = s.share ∧ (s.overwriteFrame i frame).prot = s.prot ∧
    (s.overwriteFrame i frame).conv = s.conv ∧ (s.overwriteFrame i frame).control = s.control ∧
    (s.overwriteFrame i frame).counters = s.counters ∧ (s.overwriteFrame i frame).pending = s.pending := by
  simp only [State.overwriteFrame]
  (repeat' split) <;> simp

@[simp] theorem State.moveSlot_keeps (s : State) (i : Slot) (x : SlotState) :
    (s.moveSlot i x).now = s.now ∧ (s.moveSlot i x).number = s.number ∧ (s.moveSlot i x).mode = s.mode ∧
    (s.moveSlot i x).voicing = s.voicing ∧ (s.moveSlot i x).scan = s.scan ∧ (s.moveSlot i x).tracks = s.tracks ∧
    (s.moveSlot i x).shade = s.shade ∧ (s.moveSlot i x).notes = s.notes ∧ (s.moveSlot i x).keys = s.keys ∧
    (s.moveSlot i x).pedals = s.pedals ∧ (s.moveSlot i x).share = s.share ∧ (s.moveSlot i x).prot = s.prot ∧
    (s.moveSlot i x).conv = s.conv ∧ (s.moveSlot i x).control = s.control ∧ (s.moveSlot i x).counters = s.counters ∧
    (s.moveSlot i x).pending = s.pending := by
  simp only [State.moveSlot]
  (repeat' split) <;> simp

@[simp] theorem State.requestCancel_keeps (s : State) (i : Slot) (kind : CancelKind) :
    (s.requestCancel i kind).now = s.now ∧ (s.requestCancel i kind).number = s.number ∧
    (s.requestCancel i kind).mode = s.mode ∧ (s.requestCancel i kind).voicing = s.voicing ∧
    (s.requestCancel i kind).scan = s.scan ∧ (s.requestCancel i kind).tracks = s.tracks ∧
    (s.requestCancel i kind).shade = s.shade ∧ (s.requestCancel i kind).notes = s.notes ∧
    (s.requestCancel i kind).keys = s.keys ∧ (s.requestCancel i kind).pedals = s.pedals ∧
    (s.requestCancel i kind).share = s.share ∧ (s.requestCancel i kind).prot = s.prot ∧
    (s.requestCancel i kind).conv = s.conv ∧ (s.requestCancel i kind).control = s.control ∧
    (s.requestCancel i kind).counters = s.counters ∧ (s.requestCancel i kind).pending = s.pending := by
  simp only [State.requestCancel]
  (repeat' split) <;> simp

@[simp] theorem State.markHandled_keeps (s : State) :
    (s.markHandled).now = s.now ∧ (s.markHandled).number = s.number ∧ (s.markHandled).mode = s.mode ∧
    (s.markHandled).voicing = s.voicing ∧ (s.markHandled).scan = s.scan ∧ (s.markHandled).tracks = s.tracks ∧
    (s.markHandled).shade = s.shade ∧ (s.markHandled).notes = s.notes ∧ (s.markHandled).keys = s.keys ∧
    (s.markHandled).pedals = s.pedals ∧ (s.markHandled).share = s.share ∧ (s.markHandled).prot = s.prot ∧
    (s.markHandled).conv = s.conv ∧ (s.markHandled).control = s.control ∧ (s.markHandled).counters = s.counters ∧
    (s.markHandled).pending = s.pending := by
  simp only [State.markHandled]
  (repeat' split) <;> simp

end Sys2Proof.Machine
end

