-- ==== Sys2Proof/Laws/Flags.lean ====
section
/-! SUPPORT. What each operation of Machine/Flags.lean leaves as it was: every part of the state but those its rules change. -/

namespace Sys2Proof.Machine

@[simp] theorem State.queueNotice_keeps (s : State) (cause : Cause) :
    (s.queueNotice cause).now = s.now ∧ (s.queueNotice cause).number = s.number ∧
    (s.queueNotice cause).mode = s.mode ∧ (s.queueNotice cause).voicing = s.voicing ∧
    (s.queueNotice cause).scan = s.scan ∧ (s.queueNotice cause).tracks = s.tracks ∧
    (s.queueNotice cause).shade = s.shade ∧ (s.queueNotice cause).notes = s.notes ∧
    (s.queueNotice cause).keys = s.keys ∧ (s.queueNotice cause).pedals = s.pedals ∧
    (s.queueNotice cause).share = s.share ∧ (s.queueNotice cause).prot = s.prot ∧
    (s.queueNotice cause).conv = s.conv ∧ (s.queueNotice cause).counters = s.counters ∧
    (s.queueNotice cause).pending = s.pending := by
  simp only [State.queueNotice]
  (repeat' split) <;> simp

@[simp] theorem State.notify_keeps (before : State) (cause : Cause) (s : State) :
    (State.notify before cause s).now = s.now ∧ (State.notify before cause s).number = s.number ∧
    (State.notify before cause s).mode = s.mode ∧ (State.notify before cause s).voicing = s.voicing ∧
    (State.notify before cause s).scan = s.scan ∧ (State.notify before cause s).tracks = s.tracks ∧
    (State.notify before cause s).shade = s.shade ∧ (State.notify before cause s).notes = s.notes ∧
    (State.notify before cause s).keys = s.keys ∧ (State.notify before cause s).pedals = s.pedals ∧
    (State.notify before cause s).share = s.share ∧ (State.notify before cause s).prot = s.prot ∧
    (State.notify before cause s).conv = s.conv ∧ (State.notify before cause s).counters = s.counters ∧
    (State.notify before cause s).pending = s.pending := by
  simp only [State.notify]
  (repeat' split) <;> simp

@[simp] theorem State.settleMode_keeps (s : State) :
    (s.settleMode).now = s.now ∧ (s.settleMode).number = s.number ∧ (s.settleMode).voicing = s.voicing ∧
    (s.settleMode).scan = s.scan ∧ (s.settleMode).tracks = s.tracks ∧ (s.settleMode).shade = s.shade ∧
    (s.settleMode).notes = s.notes ∧ (s.settleMode).keys = s.keys ∧ (s.settleMode).pedals = s.pedals ∧
    (s.settleMode).share = s.share ∧ (s.settleMode).prot = s.prot ∧ (s.settleMode).conv = s.conv ∧
    (s.settleMode).link = s.link ∧ (s.settleMode).control = s.control ∧ (s.settleMode).counters = s.counters ∧
    (s.settleMode).pending = s.pending := by
  simp only [State.settleMode]
  (repeat' split) <;> simp

end Sys2Proof.Machine
end

