-- ==== Sys2Proof/Laws/Share.lean ====
section
/-! SUPPORT. What each operation of Machine/Share.lean leaves as it was: every part of the state but those its rules change. -/

namespace Sys2Proof.Machine

@[simp] theorem State.queueLoad_keeps (s : State) :
    (s.queueLoad).now = s.now ∧ (s.queueLoad).number = s.number ∧ (s.queueLoad).mode = s.mode ∧
    (s.queueLoad).voicing = s.voicing ∧ (s.queueLoad).scan = s.scan ∧ (s.queueLoad).tracks = s.tracks ∧
    (s.queueLoad).shade = s.shade ∧ (s.queueLoad).notes = s.notes ∧ (s.queueLoad).keys = s.keys ∧
    (s.queueLoad).pedals = s.pedals ∧ (s.queueLoad).prot = s.prot ∧ (s.queueLoad).conv = s.conv ∧
    (s.queueLoad).control = s.control ∧ (s.queueLoad).counters = s.counters ∧ (s.queueLoad).pending = s.pending := by
  simp only [State.queueLoad]
  (repeat' split) <;> simp

@[simp] theorem State.changeLoad_keeps (s : State) (old new : Nat) :
    (s.changeLoad old new).now = s.now ∧ (s.changeLoad old new).number = s.number ∧
    (s.changeLoad old new).mode = s.mode ∧ (s.changeLoad old new).voicing = s.voicing ∧
    (s.changeLoad old new).scan = s.scan ∧ (s.changeLoad old new).tracks = s.tracks ∧
    (s.changeLoad old new).shade = s.shade ∧ (s.changeLoad old new).notes = s.notes ∧
    (s.changeLoad old new).keys = s.keys ∧ (s.changeLoad old new).pedals = s.pedals ∧
    (s.changeLoad old new).prot = s.prot ∧ (s.changeLoad old new).conv = s.conv ∧
    (s.changeLoad old new).control = s.control ∧ (s.changeLoad old new).counters = s.counters ∧
    (s.changeLoad old new).pending = s.pending := by
  simp only [State.changeLoad]
  (repeat' split) <;> simp

@[simp] theorem State.setPeer_keeps (s : State) (n : StationNo) (x : Peer) :
    (s.setPeer n x).now = s.now ∧ (s.setPeer n x).number = s.number ∧ (s.setPeer n x).mode = s.mode ∧
    (s.setPeer n x).voicing = s.voicing ∧ (s.setPeer n x).scan = s.scan ∧ (s.setPeer n x).tracks = s.tracks ∧
    (s.setPeer n x).shade = s.shade ∧ (s.setPeer n x).notes = s.notes ∧ (s.setPeer n x).keys = s.keys ∧
    (s.setPeer n x).pedals = s.pedals ∧ (s.setPeer n x).prot = s.prot ∧ (s.setPeer n x).conv = s.conv ∧
    (s.setPeer n x).link = s.link ∧ (s.setPeer n x).control = s.control ∧ (s.setPeer n x).counters = s.counters ∧
    (s.setPeer n x).pending = s.pending := by
  simp only [State.setPeer]
  (repeat' split) <;> simp

@[simp] theorem State.purge_keeps (s : State) :
    (s.purge).now = s.now ∧ (s.purge).number = s.number ∧ (s.purge).mode = s.mode ∧ (s.purge).voicing = s.voicing ∧
    (s.purge).scan = s.scan ∧ (s.purge).tracks = s.tracks ∧ (s.purge).shade = s.shade ∧ (s.purge).notes = s.notes ∧
    (s.purge).keys = s.keys ∧ (s.purge).pedals = s.pedals ∧ (s.purge).prot = s.prot ∧ (s.purge).conv = s.conv ∧
    (s.purge).link = s.link ∧ (s.purge).control = s.control ∧ (s.purge).counters = s.counters ∧
    (s.purge).pending = s.pending := by
  simp only [State.purge]
  (repeat' split) <;> simp

@[simp] theorem State.changeClaim_keeps (s : State) (c : ClaimId) (f : Claim → Claim) :
    (s.changeClaim c f).now = s.now ∧ (s.changeClaim c f).number = s.number ∧ (s.changeClaim c f).mode = s.mode ∧
    (s.changeClaim c f).voicing = s.voicing ∧ (s.changeClaim c f).scan = s.scan ∧
    (s.changeClaim c f).tracks = s.tracks ∧ (s.changeClaim c f).shade = s.shade ∧
    (s.changeClaim c f).notes = s.notes ∧ (s.changeClaim c f).keys = s.keys ∧ (s.changeClaim c f).pedals = s.pedals ∧
    (s.changeClaim c f).prot = s.prot ∧ (s.changeClaim c f).conv = s.conv ∧ (s.changeClaim c f).link = s.link ∧
    (s.changeClaim c f).control = s.control ∧ (s.changeClaim c f).counters = s.counters ∧
    (s.changeClaim c f).pending = s.pending := by
  simp only [State.changeClaim]
  (repeat' split) <;> simp

@[simp] theorem State.markOverdrawn_keeps (s : State) (c : ClaimId) :
    (s.markOverdrawn c).now = s.now ∧ (s.markOverdrawn c).number = s.number ∧ (s.markOverdrawn c).mode = s.mode ∧
    (s.markOverdrawn c).voicing = s.voicing ∧ (s.markOverdrawn c).scan = s.scan ∧
    (s.markOverdrawn c).tracks = s.tracks ∧ (s.markOverdrawn c).shade = s.shade ∧
    (s.markOverdrawn c).notes = s.notes ∧ (s.markOverdrawn c).keys = s.keys ∧ (s.markOverdrawn c).pedals = s.pedals ∧
    (s.markOverdrawn c).prot = s.prot ∧ (s.markOverdrawn c).conv = s.conv ∧ (s.markOverdrawn c).link = s.link ∧
    (s.markOverdrawn c).control = s.control ∧ (s.markOverdrawn c).pending = s.pending := by
  simp only [State.markOverdrawn]
  (repeat' split) <;> simp

@[simp] theorem State.countLate_keeps (s : State) (k : Nat) :
    (s.countLate k).now = s.now ∧ (s.countLate k).number = s.number ∧ (s.countLate k).mode = s.mode ∧
    (s.countLate k).voicing = s.voicing ∧ (s.countLate k).scan = s.scan ∧ (s.countLate k).tracks = s.tracks ∧
    (s.countLate k).shade = s.shade ∧ (s.countLate k).notes = s.notes ∧ (s.countLate k).keys = s.keys ∧
    (s.countLate k).pedals = s.pedals ∧ (s.countLate k).share = s.share ∧ (s.countLate k).prot = s.prot ∧
    (s.countLate k).conv = s.conv ∧ (s.countLate k).link = s.link ∧ (s.countLate k).control = s.control ∧
    (s.countLate k).pending = s.pending := by
  induction k generalizing s with
  | zero => simp [State.countLate]
  | succ k ih => simp [State.countLate, ih]

@[simp] theorem State.reduceMembers_keeps (s : State) (c : ClaimId) (headroom amount : Nat) :
    (s.reduceMembers c headroom amount).now = s.now ∧ (s.reduceMembers c headroom amount).number = s.number ∧
    (s.reduceMembers c headroom amount).mode = s.mode ∧ (s.reduceMembers c headroom amount).voicing = s.voicing ∧
    (s.reduceMembers c headroom amount).scan = s.scan ∧ (s.reduceMembers c headroom amount).tracks = s.tracks ∧
    (s.reduceMembers c headroom amount).shade = s.shade ∧ (s.reduceMembers c headroom amount).keys = s.keys ∧
    (s.reduceMembers c headroom amount).pedals = s.pedals ∧ (s.reduceMembers c headroom amount).share = s.share ∧
    (s.reduceMembers c headroom amount).prot = s.prot ∧ (s.reduceMembers c headroom amount).conv = s.conv ∧
    (s.reduceMembers c headroom amount).link = s.link ∧ (s.reduceMembers c headroom amount).control = s.control ∧
    (s.reduceMembers c headroom amount).pending = s.pending := by
  simp only [State.reduceMembers]
  (repeat' split) <;> simp

@[simp] theorem State.stampWindowEnd_keeps (s : State) (c : ClaimId) :
    (s.stampWindowEnd c).now = s.now ∧ (s.stampWindowEnd c).number = s.number ∧ (s.stampWindowEnd c).mode = s.mode ∧
    (s.stampWindowEnd c).voicing = s.voicing ∧ (s.stampWindowEnd c).scan = s.scan ∧
    (s.stampWindowEnd c).tracks = s.tracks ∧ (s.stampWindowEnd c).shade = s.shade ∧
    (s.stampWindowEnd c).keys = s.keys ∧ (s.stampWindowEnd c).pedals = s.pedals ∧
    (s.stampWindowEnd c).share = s.share ∧ (s.stampWindowEnd c).prot = s.prot ∧ (s.stampWindowEnd c).conv = s.conv ∧
    (s.stampWindowEnd c).link = s.link ∧ (s.stampWindowEnd c).control = s.control ∧
    (s.stampWindowEnd c).counters = s.counters ∧ (s.stampWindowEnd c).pending = s.pending := by
  simp only [State.stampWindowEnd]
  (repeat' split) <;> simp

@[simp] theorem State.fit_keeps (s : State) (c : ClaimId) :
    (s.fit c).now = s.now ∧ (s.fit c).number = s.number ∧ (s.fit c).mode = s.mode ∧ (s.fit c).voicing = s.voicing ∧
    (s.fit c).scan = s.scan ∧ (s.fit c).tracks = s.tracks ∧ (s.fit c).shade = s.shade ∧ (s.fit c).keys = s.keys ∧
    (s.fit c).pedals = s.pedals ∧ (s.fit c).prot = s.prot ∧ (s.fit c).conv = s.conv ∧ (s.fit c).link = s.link ∧
    (s.fit c).control = s.control ∧ (s.fit c).pending = s.pending := by
  simp only [State.fit]
  (repeat' split) <;> simp

@[simp] theorem State.forgetSlot_keeps (s : State) (c : ClaimId) :
    (s.forgetSlot c).now = s.now ∧ (s.forgetSlot c).number = s.number ∧ (s.forgetSlot c).mode = s.mode ∧
    (s.forgetSlot c).voicing = s.voicing ∧ (s.forgetSlot c).scan = s.scan ∧ (s.forgetSlot c).tracks = s.tracks ∧
    (s.forgetSlot c).shade = s.shade ∧ (s.forgetSlot c).keys = s.keys ∧ (s.forgetSlot c).pedals = s.pedals ∧
    (s.forgetSlot c).share = s.share ∧ (s.forgetSlot c).prot = s.prot ∧ (s.forgetSlot c).conv = s.conv ∧
    (s.forgetSlot c).link = s.link ∧ (s.forgetSlot c).control = s.control ∧ (s.forgetSlot c).counters = s.counters ∧
    (s.forgetSlot c).pending = s.pending := by
  simp only [State.forgetSlot]
  (repeat' split) <;> simp

@[simp] theorem State.formClaim_keeps (s : State) (c : ClaimId) (share : Nat) (start stop : Time) :
    (s.formClaim c share start stop).now = s.now ∧ (s.formClaim c share start stop).number = s.number ∧
    (s.formClaim c share start stop).mode = s.mode ∧ (s.formClaim c share start stop).voicing = s.voicing ∧
    (s.formClaim c share start stop).scan = s.scan ∧ (s.formClaim c share start stop).tracks = s.tracks ∧
    (s.formClaim c share start stop).shade = s.shade ∧ (s.formClaim c share start stop).keys = s.keys ∧
    (s.formClaim c share start stop).pedals = s.pedals ∧ (s.formClaim c share start stop).prot = s.prot ∧
    (s.formClaim c share start stop).conv = s.conv ∧ (s.formClaim c share start stop).control = s.control ∧
    (s.formClaim c share start stop).counters = s.counters ∧ (s.formClaim c share start stop).pending = s.pending := by
  simp only [State.formClaim]
  (repeat' split) <;> simp

@[simp] theorem State.tagNote_keeps (s : State) (n : Note) (c : ClaimId) :
    (s.tagNote n c).now = s.now ∧ (s.tagNote n c).number = s.number ∧ (s.tagNote n c).mode = s.mode ∧
    (s.tagNote n c).voicing = s.voicing ∧ (s.tagNote n c).scan = s.scan ∧ (s.tagNote n c).tracks = s.tracks ∧
    (s.tagNote n c).shade = s.shade ∧ (s.tagNote n c).keys = s.keys ∧ (s.tagNote n c).pedals = s.pedals ∧
    (s.tagNote n c).share = s.share ∧ (s.tagNote n c).prot = s.prot ∧ (s.tagNote n c).conv = s.conv ∧
    (s.tagNote n c).link = s.link ∧ (s.tagNote n c).control = s.control ∧ (s.tagNote n c).counters = s.counters ∧
    (s.tagNote n c).pending = s.pending := by
  simp only [State.tagNote]
  (repeat' split) <;> simp

@[simp] theorem State.fitAlone_keeps (s : State) (n : Note) (k : Strike) (stop : Time) :
    (s.fitAlone n k stop).now = s.now ∧ (s.fitAlone n k stop).number = s.number ∧
    (s.fitAlone n k stop).mode = s.mode ∧ (s.fitAlone n k stop).voicing = s.voicing ∧
    (s.fitAlone n k stop).scan = s.scan ∧ (s.fitAlone n k stop).tracks = s.tracks ∧
    (s.fitAlone n k stop).shade = s.shade ∧ (s.fitAlone n k stop).keys = s.keys ∧
    (s.fitAlone n k stop).pedals = s.pedals ∧ (s.fitAlone n k stop).prot = s.prot ∧
    (s.fitAlone n k stop).conv = s.conv ∧ (s.fitAlone n k stop).link = s.link ∧
    (s.fitAlone n k stop).control = s.control ∧ (s.fitAlone n k stop).pending = s.pending := by
  simp only [State.fitAlone]
  (repeat' split) <;> simp

@[simp] theorem State.placeClaim_keeps (s : State) (n : Note) (k : Strike) :
    (s.placeClaim n k).now = s.now ∧ (s.placeClaim n k).number = s.number ∧ (s.placeClaim n k).mode = s.mode ∧
    (s.placeClaim n k).voicing = s.voicing ∧ (s.placeClaim n k).scan = s.scan ∧
    (s.placeClaim n k).tracks = s.tracks ∧ (s.placeClaim n k).shade = s.shade ∧ (s.placeClaim n k).keys = s.keys ∧
    (s.placeClaim n k).pedals = s.pedals ∧ (s.placeClaim n k).prot = s.prot ∧ (s.placeClaim n k).conv = s.conv ∧
    (s.placeClaim n k).control = s.control ∧ (s.placeClaim n k).pending = s.pending := by
  simp only [State.placeClaim]
  (repeat' split) <;> simp

@[simp] theorem State.leaveClaim_keeps (s : State) (n : Note) :
    (s.leaveClaim n).now = s.now ∧ (s.leaveClaim n).number = s.number ∧ (s.leaveClaim n).mode = s.mode ∧
    (s.leaveClaim n).voicing = s.voicing ∧ (s.leaveClaim n).scan = s.scan ∧ (s.leaveClaim n).tracks = s.tracks ∧
    (s.leaveClaim n).shade = s.shade ∧ (s.leaveClaim n).notes = s.notes ∧ (s.leaveClaim n).keys = s.keys ∧
    (s.leaveClaim n).pedals = s.pedals ∧ (s.leaveClaim n).prot = s.prot ∧ (s.leaveClaim n).conv = s.conv ∧
    (s.leaveClaim n).control = s.control ∧ (s.leaveClaim n).counters = s.counters ∧
    (s.leaveClaim n).pending = s.pending := by
  simp only [State.leaveClaim]
  (repeat' split) <;> simp

@[simp] theorem State.lateClaim_keeps (s : State) (n : Note) :
    (s.lateClaim n).now = s.now ∧ (s.lateClaim n).number = s.number ∧ (s.lateClaim n).mode = s.mode ∧
    (s.lateClaim n).voicing = s.voicing ∧ (s.lateClaim n).scan = s.scan ∧ (s.lateClaim n).tracks = s.tracks ∧
    (s.lateClaim n).shade = s.shade ∧ (s.lateClaim n).notes = s.notes ∧ (s.lateClaim n).keys = s.keys ∧
    (s.lateClaim n).pedals = s.pedals ∧ (s.lateClaim n).prot = s.prot ∧ (s.lateClaim n).conv = s.conv ∧
    (s.lateClaim n).link = s.link ∧ (s.lateClaim n).control = s.control ∧ (s.lateClaim n).pending = s.pending := by
  simp only [State.lateClaim]
  (repeat' split) <;> simp

@[simp] theorem State.compareDeferred_keeps (s : State) (n : Note) (fire : Time) :
    (s.compareDeferred n fire).now = s.now ∧ (s.compareDeferred n fire).number = s.number ∧
    (s.compareDeferred n fire).mode = s.mode ∧ (s.compareDeferred n fire).voicing = s.voicing ∧
    (s.compareDeferred n fire).scan = s.scan ∧ (s.compareDeferred n fire).tracks = s.tracks ∧
    (s.compareDeferred n fire).shade = s.shade ∧ (s.compareDeferred n fire).notes = s.notes ∧
    (s.compareDeferred n fire).keys = s.keys ∧ (s.compareDeferred n fire).pedals = s.pedals ∧
    (s.compareDeferred n fire).share = s.share ∧ (s.compareDeferred n fire).prot = s.prot ∧
    (s.compareDeferred n fire).conv = s.conv ∧ (s.compareDeferred n fire).link = s.link ∧
    (s.compareDeferred n fire).control = s.control ∧ (s.compareDeferred n fire).pending = s.pending := by
  simp only [State.compareDeferred]
  (repeat' split) <;> simp

end Sys2Proof.Machine
end

