-- ==== Sys2Proof/Laws/Keys.lean ====
section
/-! SUPPORT. What each operation of Machine/Keys.lean leaves as it was: every part of the state but those its rules change. -/

namespace Sys2Proof.Machine

@[simp] theorem State.dropNote_keeps (s : State) (n : Note) :
    (s.dropNote n).now = s.now ∧ (s.dropNote n).number = s.number ∧ (s.dropNote n).mode = s.mode ∧
    (s.dropNote n).voicing = s.voicing ∧ (s.dropNote n).scan = s.scan ∧ (s.dropNote n).tracks = s.tracks ∧
    (s.dropNote n).shade = s.shade ∧ (s.dropNote n).keys = s.keys ∧ (s.dropNote n).pedals = s.pedals ∧
    (s.dropNote n).prot = s.prot ∧ (s.dropNote n).conv = s.conv ∧ (s.dropNote n).pending = s.pending := by
  simp only [State.dropNote]
  (repeat' split) <;> simp

@[simp] theorem State.dropNotes_keeps (s : State) (p : Note → Bool) :
    (s.dropNotes p).now = s.now ∧ (s.dropNotes p).number = s.number ∧ (s.dropNotes p).mode = s.mode ∧
    (s.dropNotes p).voicing = s.voicing ∧ (s.dropNotes p).scan = s.scan ∧ (s.dropNotes p).tracks = s.tracks ∧
    (s.dropNotes p).shade = s.shade ∧ (s.dropNotes p).keys = s.keys ∧ (s.dropNotes p).pedals = s.pedals ∧
    (s.dropNotes p).prot = s.prot ∧ (s.dropNotes p).conv = s.conv ∧ (s.dropNotes p).pending = s.pending := 
  ⟨foldl_keeps State.now _ (by simp) _ _, foldl_keeps State.number _ (by simp) _ _,
   foldl_keeps State.mode _ (by simp) _ _, foldl_keeps State.voicing _ (by simp) _ _,
   foldl_keeps State.scan _ (by simp) _ _, foldl_keeps State.tracks _ (by simp) _ _,
   foldl_keeps State.shade _ (by simp) _ _, foldl_keeps State.keys _ (by simp) _ _,
   foldl_keeps State.pedals _ (by simp) _ _, foldl_keeps State.prot _ (by simp) _ _,
   foldl_keeps State.conv _ (by simp) _ _, foldl_keeps State.pending _ (by simp) _ _⟩

@[simp] theorem State.removeSounding_keeps (s : State) (k : Driver) :
    (s.removeSounding k).now = s.now ∧ (s.removeSounding k).number = s.number ∧ (s.removeSounding k).mode = s.mode ∧
    (s.removeSounding k).voicing = s.voicing ∧ (s.removeSounding k).scan = s.scan ∧
    (s.removeSounding k).tracks = s.tracks ∧ (s.removeSounding k).shade = s.shade ∧
    (s.removeSounding k).keys = s.keys ∧ (s.removeSounding k).pedals = s.pedals ∧
    (s.removeSounding k).share = s.share ∧ (s.removeSounding k).prot = s.prot ∧ (s.removeSounding k).conv = s.conv ∧
    (s.removeSounding k).link = s.link ∧ (s.removeSounding k).control = s.control ∧
    (s.removeSounding k).counters = s.counters ∧ (s.removeSounding k).pending = s.pending := by
  simp only [State.removeSounding]
  (repeat' split) <;> simp

@[simp] theorem State.coilOff_keeps (s : State) (k : Driver) (x : Stroke) :
    (s.coilOff k x).now = s.now ∧ (s.coilOff k x).number = s.number ∧ (s.coilOff k x).mode = s.mode ∧
    (s.coilOff k x).voicing = s.voicing ∧ (s.coilOff k x).scan = s.scan ∧ (s.coilOff k x).tracks = s.tracks ∧
    (s.coilOff k x).shade = s.shade ∧ (s.coilOff k x).notes = s.notes ∧ (s.coilOff k x).pedals = s.pedals ∧
    (s.coilOff k x).prot = s.prot ∧ (s.coilOff k x).conv = s.conv ∧ (s.coilOff k x).control = s.control ∧
    (s.coilOff k x).counters = s.counters ∧ (s.coilOff k x).pending = s.pending := by
  simp only [State.coilOff]
  (repeat' split) <;> simp

@[simp] theorem State.enterReturn_keeps (s : State) (k : Driver) :
    (s.enterReturn k).now = s.now ∧ (s.enterReturn k).number = s.number ∧ (s.enterReturn k).mode = s.mode ∧
    (s.enterReturn k).voicing = s.voicing ∧ (s.enterReturn k).scan = s.scan ∧ (s.enterReturn k).tracks = s.tracks ∧
    (s.enterReturn k).shade = s.shade ∧ (s.enterReturn k).pedals = s.pedals ∧ (s.enterReturn k).prot = s.prot ∧
    (s.enterReturn k).conv = s.conv ∧ (s.enterReturn k).control = s.control ∧
    (s.enterReturn k).counters = s.counters ∧ (s.enterReturn k).pending = s.pending := by
  simp only [State.enterReturn]
  (repeat' split) <;> simp

@[simp] theorem State.holdKey_keeps (s : State) (k : Driver) (openRun : Option Time) :
    (s.holdKey k openRun).now = s.now ∧ (s.holdKey k openRun).number = s.number ∧
    (s.holdKey k openRun).mode = s.mode ∧ (s.holdKey k openRun).voicing = s.voicing ∧
    (s.holdKey k openRun).scan = s.scan ∧ (s.holdKey k openRun).tracks = s.tracks ∧
    (s.holdKey k openRun).shade = s.shade ∧ (s.holdKey k openRun).notes = s.notes ∧
    (s.holdKey k openRun).pedals = s.pedals ∧ (s.holdKey k openRun).prot = s.prot ∧
    (s.holdKey k openRun).conv = s.conv ∧ (s.holdKey k openRun).control = s.control ∧
    (s.holdKey k openRun).counters = s.counters ∧ (s.holdKey k openRun).pending = s.pending := by
  simp only [State.holdKey]
  (repeat' split) <;> simp

@[simp] theorem State.enterHold_keeps (s : State) (k : Driver) :
    (s.enterHold k).now = s.now ∧ (s.enterHold k).number = s.number ∧ (s.enterHold k).mode = s.mode ∧
    (s.enterHold k).voicing = s.voicing ∧ (s.enterHold k).scan = s.scan ∧ (s.enterHold k).tracks = s.tracks ∧
    (s.enterHold k).shade = s.shade ∧ (s.enterHold k).notes = s.notes ∧ (s.enterHold k).pedals = s.pedals ∧
    (s.enterHold k).prot = s.prot ∧ (s.enterHold k).conv = s.conv ∧ (s.enterHold k).control = s.control ∧
    (s.enterHold k).counters = s.counters ∧ (s.enterHold k).pending = s.pending := by
  simp only [State.enterHold]
  (repeat' split) <;> simp

@[simp] theorem State.rewarmKey_keeps (s : State) (k : Driver) :
    (s.rewarmKey k).now = s.now ∧ (s.rewarmKey k).number = s.number ∧ (s.rewarmKey k).mode = s.mode ∧
    (s.rewarmKey k).voicing = s.voicing ∧ (s.rewarmKey k).scan = s.scan ∧ (s.rewarmKey k).tracks = s.tracks ∧
    (s.rewarmKey k).shade = s.shade ∧ (s.rewarmKey k).notes = s.notes ∧ (s.rewarmKey k).pedals = s.pedals ∧
    (s.rewarmKey k).prot = s.prot ∧ (s.rewarmKey k).conv = s.conv ∧ (s.rewarmKey k).control = s.control ∧
    (s.rewarmKey k).counters = s.counters ∧ (s.rewarmKey k).pending = s.pending := by
  simp only [State.rewarmKey]
  (repeat' split) <;> simp

@[simp] theorem State.recompensateKey_keeps (s : State) (k : Driver) :
    (s.recompensateKey k).now = s.now ∧ (s.recompensateKey k).number = s.number ∧
    (s.recompensateKey k).mode = s.mode ∧ (s.recompensateKey k).voicing = s.voicing ∧
    (s.recompensateKey k).scan = s.scan ∧ (s.recompensateKey k).tracks = s.tracks ∧
    (s.recompensateKey k).shade = s.shade ∧ (s.recompensateKey k).notes = s.notes ∧
    (s.recompensateKey k).pedals = s.pedals ∧ (s.recompensateKey k).share = s.share ∧
    (s.recompensateKey k).prot = s.prot ∧ (s.recompensateKey k).conv = s.conv ∧ (s.recompensateKey k).link = s.link ∧
    (s.recompensateKey k).control = s.control ∧ (s.recompensateKey k).counters = s.counters ∧
    (s.recompensateKey k).pending = s.pending := by
  simp only [State.recompensateKey]
  (repeat' split) <;> simp

@[simp] theorem State.cutKey_keeps (s : State) (k : Driver) :
    (s.cutKey k).now = s.now ∧ (s.cutKey k).number = s.number ∧ (s.cutKey k).mode = s.mode ∧
    (s.cutKey k).voicing = s.voicing ∧ (s.cutKey k).scan = s.scan ∧ (s.cutKey k).tracks = s.tracks ∧
    (s.cutKey k).shade = s.shade ∧ (s.cutKey k).pedals = s.pedals ∧ (s.cutKey k).prot = s.prot ∧
    (s.cutKey k).conv = s.conv ∧ (s.cutKey k).control = s.control ∧ (s.cutKey k).counters = s.counters ∧
    (s.cutKey k).pending = s.pending := by
  simp only [State.cutKey]
  (repeat' split) <;> simp

@[simp] theorem State.silenceKey_keeps (s : State) (k : Driver) :
    (s.silenceKey k).now = s.now ∧ (s.silenceKey k).number = s.number ∧ (s.silenceKey k).mode = s.mode ∧
    (s.silenceKey k).voicing = s.voicing ∧ (s.silenceKey k).scan = s.scan ∧ (s.silenceKey k).tracks = s.tracks ∧
    (s.silenceKey k).shade = s.shade ∧ (s.silenceKey k).notes = s.notes ∧ (s.silenceKey k).pedals = s.pedals ∧
    (s.silenceKey k).prot = s.prot ∧ (s.silenceKey k).conv = s.conv ∧ (s.silenceKey k).control = s.control ∧
    (s.silenceKey k).counters = s.counters ∧ (s.silenceKey k).pending = s.pending := by
  simp only [State.silenceKey]
  (repeat' split) <;> simp

@[simp] theorem State.strikeKey_keeps (s : State) (k : Driver) (applied : Nat) :
    (s.strikeKey k applied).now = s.now ∧ (s.strikeKey k applied).number = s.number ∧
    (s.strikeKey k applied).mode = s.mode ∧ (s.strikeKey k applied).voicing = s.voicing ∧
    (s.strikeKey k applied).scan = s.scan ∧ (s.strikeKey k applied).tracks = s.tracks ∧
    (s.strikeKey k applied).shade = s.shade ∧ (s.strikeKey k applied).notes = s.notes ∧
    (s.strikeKey k applied).pedals = s.pedals ∧ (s.strikeKey k applied).share = s.share ∧
    (s.strikeKey k applied).prot = s.prot ∧ (s.strikeKey k applied).conv = s.conv ∧
    (s.strikeKey k applied).link = s.link ∧ (s.strikeKey k applied).control = s.control ∧
    (s.strikeKey k applied).counters = s.counters ∧ (s.strikeKey k applied).pending = s.pending := by
  simp only [State.strikeKey]
  (repeat' split) <;> simp

@[simp] theorem State.faultKey_keeps (s : State) (k : Driver) :
    (s.faultKey k).now = s.now ∧ (s.faultKey k).number = s.number ∧ (s.faultKey k).mode = s.mode ∧
    (s.faultKey k).voicing = s.voicing ∧ (s.faultKey k).scan = s.scan ∧ (s.faultKey k).tracks = s.tracks ∧
    (s.faultKey k).shade = s.shade ∧ (s.faultKey k).pedals = s.pedals ∧ (s.faultKey k).prot = s.prot ∧
    (s.faultKey k).conv = s.conv ∧ (s.faultKey k).pending = s.pending := by
  simp only [State.faultKey]
  (repeat' split) <;> simp

@[simp] theorem State.onPulseEnd_keeps (s : State) (k : Driver) :
    (s.onPulseEnd k).now = s.now ∧ (s.onPulseEnd k).number = s.number ∧ (s.onPulseEnd k).mode = s.mode ∧
    (s.onPulseEnd k).voicing = s.voicing ∧ (s.onPulseEnd k).scan = s.scan ∧ (s.onPulseEnd k).tracks = s.tracks ∧
    (s.onPulseEnd k).shade = s.shade ∧ (s.onPulseEnd k).pedals = s.pedals ∧ (s.onPulseEnd k).prot = s.prot ∧
    (s.onPulseEnd k).conv = s.conv ∧ (s.onPulseEnd k).control = s.control ∧ (s.onPulseEnd k).counters = s.counters ∧
    (s.onPulseEnd k).pending = s.pending := by
  simp only [State.onPulseEnd]
  (repeat' split) <;> simp

@[simp] theorem State.onReturnEnd_keeps (s : State) (k : Driver) :
    (s.onReturnEnd k).now = s.now ∧ (s.onReturnEnd k).number = s.number ∧ (s.onReturnEnd k).voicing = s.voicing ∧
    (s.onReturnEnd k).scan = s.scan ∧ (s.onReturnEnd k).tracks = s.tracks ∧ (s.onReturnEnd k).shade = s.shade ∧
    (s.onReturnEnd k).notes = s.notes ∧ (s.onReturnEnd k).pedals = s.pedals ∧ (s.onReturnEnd k).share = s.share ∧
    (s.onReturnEnd k).prot = s.prot ∧ (s.onReturnEnd k).conv = s.conv ∧ (s.onReturnEnd k).link = s.link ∧
    (s.onReturnEnd k).control = s.control ∧ (s.onReturnEnd k).counters = s.counters ∧
    (s.onReturnEnd k).pending = s.pending := by
  simp only [State.onReturnEnd]
  (repeat' split) <;> simp

end Sys2Proof.Machine
end

