-- ==== Sys2Proof/Laws/ShadeUnit.lean ====
section
/-! SUPPORT. What each operation of Machine/ShadeUnit.lean leaves as it was: every part of the state but those its rules change. -/

namespace Sys2Proof.Machine

@[simp] theorem State.feedShade_keeps (s : State) (h : Half) :
    (s.feedShade h).now = s.now ∧ (s.feedShade h).number = s.number ∧ (s.feedShade h).mode = s.mode ∧
    (s.feedShade h).voicing = s.voicing ∧ (s.feedShade h).scan = s.scan ∧ (s.feedShade h).tracks = s.tracks ∧
    (s.feedShade h).notes = s.notes ∧ (s.feedShade h).keys = s.keys ∧ (s.feedShade h).pedals = s.pedals ∧
    (s.feedShade h).share = s.share ∧ (s.feedShade h).prot = s.prot ∧ (s.feedShade h).conv = s.conv ∧
    (s.feedShade h).control = s.control ∧ (s.feedShade h).counters = s.counters ∧ (s.feedShade h).pending = s.pending := by
  simp only [State.feedShade]
  (repeat' split) <;> simp

@[simp] theorem State.queueShade_keeps (s : State) (h : Half) (f : ShadeFrame) :
    (s.queueShade h f).now = s.now ∧ (s.queueShade h f).number = s.number ∧ (s.queueShade h f).mode = s.mode ∧
    (s.queueShade h f).voicing = s.voicing ∧ (s.queueShade h f).scan = s.scan ∧
    (s.queueShade h f).tracks = s.tracks ∧ (s.queueShade h f).notes = s.notes ∧ (s.queueShade h f).keys = s.keys ∧
    (s.queueShade h f).pedals = s.pedals ∧ (s.queueShade h f).share = s.share ∧ (s.queueShade h f).prot = s.prot ∧
    (s.queueShade h f).conv = s.conv ∧ (s.queueShade h f).control = s.control ∧ (s.queueShade h f).pending = s.pending := by
  simp only [State.queueShade]
  (repeat' split) <;> simp

@[simp] theorem State.prune_keeps (s : State) (h : Half) :
    (s.prune h).now = s.now ∧ (s.prune h).number = s.number ∧ (s.prune h).mode = s.mode ∧
    (s.prune h).voicing = s.voicing ∧ (s.prune h).scan = s.scan ∧ (s.prune h).tracks = s.tracks ∧
    (s.prune h).notes = s.notes ∧ (s.prune h).keys = s.keys ∧ (s.prune h).pedals = s.pedals ∧
    (s.prune h).share = s.share ∧ (s.prune h).prot = s.prot ∧ (s.prune h).conv = s.conv ∧ (s.prune h).link = s.link ∧
    (s.prune h).control = s.control ∧ (s.prune h).counters = s.counters ∧ (s.prune h).pending = s.pending := by
  simp only [State.prune]
  (repeat' split) <;> simp

@[simp] theorem State.placeSegment_keeps (s : State) (h : Half) (g : Segment) :
    (s.placeSegment h g).now = s.now ∧ (s.placeSegment h g).number = s.number ∧ (s.placeSegment h g).mode = s.mode ∧
    (s.placeSegment h g).voicing = s.voicing ∧ (s.placeSegment h g).scan = s.scan ∧
    (s.placeSegment h g).tracks = s.tracks ∧ (s.placeSegment h g).notes = s.notes ∧
    (s.placeSegment h g).keys = s.keys ∧ (s.placeSegment h g).pedals = s.pedals ∧
    (s.placeSegment h g).share = s.share ∧ (s.placeSegment h g).prot = s.prot ∧ (s.placeSegment h g).conv = s.conv ∧
    (s.placeSegment h g).link = s.link ∧ (s.placeSegment h g).control = s.control ∧
    (s.placeSegment h g).pending = s.pending := by
  simp only [State.placeSegment]
  (repeat' split) <;> simp

@[simp] theorem State.emitSegment_keeps (s : State) (h : Half) (g : Segment) :
    (s.emitSegment h g).now = s.now ∧ (s.emitSegment h g).number = s.number ∧ (s.emitSegment h g).mode = s.mode ∧
    (s.emitSegment h g).voicing = s.voicing ∧ (s.emitSegment h g).scan = s.scan ∧
    (s.emitSegment h g).tracks = s.tracks ∧ (s.emitSegment h g).notes = s.notes ∧ (s.emitSegment h g).keys = s.keys ∧
    (s.emitSegment h g).pedals = s.pedals ∧ (s.emitSegment h g).share = s.share ∧ (s.emitSegment h g).prot = s.prot ∧
    (s.emitSegment h g).conv = s.conv ∧ (s.emitSegment h g).control = s.control ∧
    (s.emitSegment h g).pending = s.pending := by
  simp only [State.emitSegment]
  (repeat' split) <;> simp

@[simp] theorem State.generatorEdge_keeps (s : State) (h : Half) (line : Line) :
    (s.generatorEdge h line).now = s.now ∧ (s.generatorEdge h line).number = s.number ∧
    (s.generatorEdge h line).mode = s.mode ∧ (s.generatorEdge h line).voicing = s.voicing ∧
    (s.generatorEdge h line).scan = s.scan ∧ (s.generatorEdge h line).tracks = s.tracks ∧
    (s.generatorEdge h line).notes = s.notes ∧ (s.generatorEdge h line).keys = s.keys ∧
    (s.generatorEdge h line).pedals = s.pedals ∧ (s.generatorEdge h line).share = s.share ∧
    (s.generatorEdge h line).prot = s.prot ∧ (s.generatorEdge h line).conv = s.conv ∧
    (s.generatorEdge h line).control = s.control ∧ (s.generatorEdge h line).pending = s.pending := by
  simp only [State.generatorEdge]
  (repeat' split) <;> simp

@[simp] theorem State.reannounceHalf_keeps (s : State) (h : Half) (valueAt start : Line) :
    (s.reannounceHalf h valueAt start).now = s.now ∧ (s.reannounceHalf h valueAt start).number = s.number ∧
    (s.reannounceHalf h valueAt start).mode = s.mode ∧ (s.reannounceHalf h valueAt start).voicing = s.voicing ∧
    (s.reannounceHalf h valueAt start).scan = s.scan ∧ (s.reannounceHalf h valueAt start).tracks = s.tracks ∧
    (s.reannounceHalf h valueAt start).notes = s.notes ∧ (s.reannounceHalf h valueAt start).keys = s.keys ∧
    (s.reannounceHalf h valueAt start).pedals = s.pedals ∧ (s.reannounceHalf h valueAt start).share = s.share ∧
    (s.reannounceHalf h valueAt start).prot = s.prot ∧ (s.reannounceHalf h valueAt start).conv = s.conv ∧
    (s.reannounceHalf h valueAt start).control = s.control ∧ (s.reannounceHalf h valueAt start).pending = s.pending := by
  simp only [State.reannounceHalf]
  (repeat' split) <;> simp

@[simp] theorem State.reannouncePlay_keeps (s : State) :
    (s.reannouncePlay).now = s.now ∧ (s.reannouncePlay).number = s.number ∧ (s.reannouncePlay).mode = s.mode ∧
    (s.reannouncePlay).voicing = s.voicing ∧ (s.reannouncePlay).scan = s.scan ∧
    (s.reannouncePlay).tracks = s.tracks ∧ (s.reannouncePlay).notes = s.notes ∧ (s.reannouncePlay).keys = s.keys ∧
    (s.reannouncePlay).pedals = s.pedals ∧ (s.reannouncePlay).share = s.share ∧ (s.reannouncePlay).prot = s.prot ∧
    (s.reannouncePlay).conv = s.conv ∧ (s.reannouncePlay).control = s.control ∧ (s.reannouncePlay).pending = s.pending := by
  simp only [State.reannouncePlay]
  (repeat' split) <;> simp

@[simp] theorem State.shadeRollStart_keeps (s : State) :
    (s.shadeRollStart).now = s.now ∧ (s.shadeRollStart).number = s.number ∧ (s.shadeRollStart).mode = s.mode ∧
    (s.shadeRollStart).voicing = s.voicing ∧ (s.shadeRollStart).scan = s.scan ∧
    (s.shadeRollStart).tracks = s.tracks ∧ (s.shadeRollStart).notes = s.notes ∧ (s.shadeRollStart).keys = s.keys ∧
    (s.shadeRollStart).pedals = s.pedals ∧ (s.shadeRollStart).share = s.share ∧ (s.shadeRollStart).prot = s.prot ∧
    (s.shadeRollStart).conv = s.conv ∧ (s.shadeRollStart).control = s.control ∧ (s.shadeRollStart).pending = s.pending := by
  simp only [State.shadeRollStart]
  (repeat' split) <;> simp

@[simp] theorem State.countLine_keeps (s : State) (h : Half) :
    (s.countLine h).now = s.now ∧ (s.countLine h).number = s.number ∧ (s.countLine h).mode = s.mode ∧
    (s.countLine h).voicing = s.voicing ∧ (s.countLine h).scan = s.scan ∧ (s.countLine h).tracks = s.tracks ∧
    (s.countLine h).notes = s.notes ∧ (s.countLine h).keys = s.keys ∧ (s.countLine h).pedals = s.pedals ∧
    (s.countLine h).share = s.share ∧ (s.countLine h).prot = s.prot ∧ (s.countLine h).conv = s.conv ∧
    (s.countLine h).link = s.link ∧ (s.countLine h).control = s.control ∧ (s.countLine h).counters = s.counters ∧
    (s.countLine h).pending = s.pending := by
  simp only [State.countLine]
  (repeat' split) <;> simp

@[simp] theorem State.onKeepCount_keeps (s : State) (h : Half) :
    (s.onKeepCount h).now = s.now ∧ (s.onKeepCount h).number = s.number ∧ (s.onKeepCount h).mode = s.mode ∧
    (s.onKeepCount h).voicing = s.voicing ∧ (s.onKeepCount h).scan = s.scan ∧ (s.onKeepCount h).tracks = s.tracks ∧
    (s.onKeepCount h).notes = s.notes ∧ (s.onKeepCount h).keys = s.keys ∧ (s.onKeepCount h).pedals = s.pedals ∧
    (s.onKeepCount h).share = s.share ∧ (s.onKeepCount h).prot = s.prot ∧ (s.onKeepCount h).conv = s.conv ∧
    (s.onKeepCount h).control = s.control ∧ (s.onKeepCount h).pending = s.pending := by
  simp only [State.onKeepCount]
  (repeat' split) <;> simp

@[simp] theorem State.raiseThrough_keeps (s : State) (h : Half) (line : Line) :
    (s.raiseThrough h line).now = s.now ∧ (s.raiseThrough h line).number = s.number ∧
    (s.raiseThrough h line).mode = s.mode ∧ (s.raiseThrough h line).voicing = s.voicing ∧
    (s.raiseThrough h line).scan = s.scan ∧ (s.raiseThrough h line).tracks = s.tracks ∧
    (s.raiseThrough h line).notes = s.notes ∧ (s.raiseThrough h line).keys = s.keys ∧
    (s.raiseThrough h line).pedals = s.pedals ∧ (s.raiseThrough h line).share = s.share ∧
    (s.raiseThrough h line).prot = s.prot ∧ (s.raiseThrough h line).conv = s.conv ∧
    (s.raiseThrough h line).link = s.link ∧ (s.raiseThrough h line).control = s.control ∧
    (s.raiseThrough h line).counters = s.counters ∧ (s.raiseThrough h line).pending = s.pending := by
  simp only [State.raiseThrough]
  (repeat' split) <;> simp

@[simp] theorem State.takeSegment_keeps (s : State) (h : Half) (g : Segment) :
    (s.takeSegment h g).now = s.now ∧ (s.takeSegment h g).number = s.number ∧ (s.takeSegment h g).mode = s.mode ∧
    (s.takeSegment h g).voicing = s.voicing ∧ (s.takeSegment h g).scan = s.scan ∧
    (s.takeSegment h g).tracks = s.tracks ∧ (s.takeSegment h g).notes = s.notes ∧ (s.takeSegment h g).keys = s.keys ∧
    (s.takeSegment h g).pedals = s.pedals ∧ (s.takeSegment h g).share = s.share ∧ (s.takeSegment h g).prot = s.prot ∧
    (s.takeSegment h g).conv = s.conv ∧ (s.takeSegment h g).link = s.link ∧ (s.takeSegment h g).control = s.control ∧
    (s.takeSegment h g).pending = s.pending := by
  simp only [State.takeSegment]
  (repeat' split) <;> simp

@[simp] theorem State.takeKeep_keeps (s : State) (h : Half) (line : Line) :
    (s.takeKeep h line).now = s.now ∧ (s.takeKeep h line).number = s.number ∧ (s.takeKeep h line).mode = s.mode ∧
    (s.takeKeep h line).voicing = s.voicing ∧ (s.takeKeep h line).scan = s.scan ∧
    (s.takeKeep h line).tracks = s.tracks ∧ (s.takeKeep h line).notes = s.notes ∧ (s.takeKeep h line).keys = s.keys ∧
    (s.takeKeep h line).pedals = s.pedals ∧ (s.takeKeep h line).share = s.share ∧ (s.takeKeep h line).prot = s.prot ∧
    (s.takeKeep h line).conv = s.conv ∧ (s.takeKeep h line).link = s.link ∧ (s.takeKeep h line).control = s.control ∧
    (s.takeKeep h line).pending = s.pending := by
  simp only [State.takeKeep]
  (repeat' split) <;> simp

end Sys2Proof.Machine
end

