-- ==== Sys2Proof/Laws/NoteList.lean ====
section
/-! SUPPORT. What each operation of Machine/NoteList.lean leaves as it was: every part of the state but those its rules change. -/

namespace Sys2Proof.Machine

@[simp] theorem leaveClaims_keeps (ns : List Note) (s : State) :
    (ns.foldl State.leaveClaim s).now = s.now ∧ (ns.foldl State.leaveClaim s).number = s.number ∧
    (ns.foldl State.leaveClaim s).mode = s.mode ∧ (ns.foldl State.leaveClaim s).voicing = s.voicing ∧
    (ns.foldl State.leaveClaim s).scan = s.scan ∧ (ns.foldl State.leaveClaim s).tracks = s.tracks ∧
    (ns.foldl State.leaveClaim s).shade = s.shade ∧ (ns.foldl State.leaveClaim s).notes = s.notes ∧
    (ns.foldl State.leaveClaim s).keys = s.keys ∧ (ns.foldl State.leaveClaim s).pedals = s.pedals ∧
    (ns.foldl State.leaveClaim s).prot = s.prot ∧ (ns.foldl State.leaveClaim s).conv = s.conv ∧
    (ns.foldl State.leaveClaim s).control = s.control ∧ (ns.foldl State.leaveClaim s).counters = s.counters ∧
    (ns.foldl State.leaveClaim s).pending = s.pending :=
  ⟨foldl_keeps State.now _ (by simp) _ _, foldl_keeps State.number _ (by simp) _ _,
   foldl_keeps State.mode _ (by simp) _ _, foldl_keeps State.voicing _ (by simp) _ _,
   foldl_keeps State.scan _ (by simp) _ _, foldl_keeps State.tracks _ (by simp) _ _,
   foldl_keeps State.shade _ (by simp) _ _, foldl_keeps State.notes _ (by simp) _ _,
   foldl_keeps State.keys _ (by simp) _ _, foldl_keeps State.pedals _ (by simp) _ _,
   foldl_keeps State.prot _ (by simp) _ _, foldl_keeps State.conv _ (by simp) _ _,
   foldl_keeps State.control _ (by simp) _ _, foldl_keeps State.counters _ (by simp) _ _,
   foldl_keeps State.pending _ (by simp) _ _⟩

@[simp] theorem State.armNote_keeps (s : State) (n : Note) :
    (s.armNote n).now = s.now ∧ (s.armNote n).number = s.number ∧ (s.armNote n).mode = s.mode ∧
    (s.armNote n).voicing = s.voicing ∧ (s.armNote n).scan = s.scan ∧ (s.armNote n).tracks = s.tracks ∧
    (s.armNote n).keys = s.keys ∧ (s.armNote n).pedals = s.pedals ∧ (s.armNote n).prot = s.prot ∧
    (s.armNote n).conv = s.conv ∧ (s.armNote n).pending = s.pending := by
  simp only [State.armNote]
  (repeat' split) <;> simp

@[simp] theorem State.releaseNote_keeps (s : State) (n : Note) :
    (s.releaseNote n).now = s.now ∧ (s.releaseNote n).number = s.number ∧ (s.releaseNote n).mode = s.mode ∧
    (s.releaseNote n).voicing = s.voicing ∧ (s.releaseNote n).scan = s.scan ∧ (s.releaseNote n).tracks = s.tracks ∧
    (s.releaseNote n).shade = s.shade ∧ (s.releaseNote n).pedals = s.pedals ∧ (s.releaseNote n).prot = s.prot ∧
    (s.releaseNote n).conv = s.conv ∧ (s.releaseNote n).control = s.control ∧
    (s.releaseNote n).counters = s.counters ∧ (s.releaseNote n).pending = s.pending := by
  simp only [State.releaseNote]
  (repeat' split) <;> simp

@[simp] theorem State.deferAtKey_keeps (s : State) (k : Driver) :
    (s.deferAtKey k).now = s.now ∧ (s.deferAtKey k).number = s.number ∧ (s.deferAtKey k).mode = s.mode ∧
    (s.deferAtKey k).voicing = s.voicing ∧ (s.deferAtKey k).scan = s.scan ∧ (s.deferAtKey k).tracks = s.tracks ∧
    (s.deferAtKey k).shade = s.shade ∧ (s.deferAtKey k).pedals = s.pedals ∧ (s.deferAtKey k).prot = s.prot ∧
    (s.deferAtKey k).conv = s.conv ∧ (s.deferAtKey k).control = s.control ∧ (s.deferAtKey k).pending = s.pending := by
  simp only [State.deferAtKey]
  (repeat' split) <;> simp

@[simp] theorem State.fireNote_keeps (s : State) (n : Note) :
    (s.fireNote n).now = s.now ∧ (s.fireNote n).number = s.number ∧ (s.fireNote n).mode = s.mode ∧
    (s.fireNote n).voicing = s.voicing ∧ (s.fireNote n).scan = s.scan ∧ (s.fireNote n).tracks = s.tracks ∧
    (s.fireNote n).shade = s.shade ∧ (s.fireNote n).pedals = s.pedals ∧ (s.fireNote n).prot = s.prot ∧
    (s.fireNote n).conv = s.conv ∧ (s.fireNote n).pending = s.pending := by
  simp only [State.fireNote]
  (repeat' split) <;> simp

@[simp] theorem State.takeNote_keeps (s : State) (n : Note) :
    (s.takeNote n).now = s.now ∧ (s.takeNote n).number = s.number ∧ (s.takeNote n).mode = s.mode ∧
    (s.takeNote n).voicing = s.voicing ∧ (s.takeNote n).scan = s.scan ∧ (s.takeNote n).tracks = s.tracks ∧
    (s.takeNote n).pedals = s.pedals ∧ (s.takeNote n).prot = s.prot ∧ (s.takeNote n).conv = s.conv ∧
    (s.takeNote n).pending = s.pending := by
  simp only [State.takeNote]
  (repeat' split) <;> simp

@[simp] theorem State.settleWith_keeps (k : Nat) (s : State) :
    (State.settleWith k s).now = s.now ∧ (State.settleWith k s).number = s.number ∧
    (State.settleWith k s).mode = s.mode ∧ (State.settleWith k s).voicing = s.voicing ∧
    (State.settleWith k s).scan = s.scan ∧ (State.settleWith k s).tracks = s.tracks ∧
    (State.settleWith k s).pedals = s.pedals ∧ (State.settleWith k s).prot = s.prot ∧
    (State.settleWith k s).conv = s.conv ∧ (State.settleWith k s).pending = s.pending := by
  induction k generalizing s with
  | zero => simp [State.settleWith]
  | succ k ih =>
    simp only [State.settleWith]
    split <;> simp [ih]

@[simp] theorem State.settle_keeps (s : State) :
    (s.settle).now = s.now ∧ (s.settle).number = s.number ∧ (s.settle).mode = s.mode ∧
    (s.settle).voicing = s.voicing ∧ (s.settle).scan = s.scan ∧ (s.settle).tracks = s.tracks ∧
    (s.settle).pedals = s.pedals ∧ (s.settle).prot = s.prot ∧ (s.settle).conv = s.conv ∧
    (s.settle).pending = s.pending := by
  simp only [State.settle]
  (repeat' split) <;> simp

@[simp] theorem State.armAtStall_keeps (s : State) (n : Note) :
    (s.armAtStall n).now = s.now ∧ (s.armAtStall n).number = s.number ∧ (s.armAtStall n).mode = s.mode ∧
    (s.armAtStall n).voicing = s.voicing ∧ (s.armAtStall n).scan = s.scan ∧ (s.armAtStall n).tracks = s.tracks ∧
    (s.armAtStall n).pedals = s.pedals ∧ (s.armAtStall n).prot = s.prot ∧ (s.armAtStall n).conv = s.conv ∧
    (s.armAtStall n).pending = s.pending := by
  simp only [State.armAtStall]
  (repeat' split) <;> simp

@[simp] theorem State.armAllWith_keeps (k : Nat) (s : State) :
    (State.armAllWith k s).now = s.now ∧ (State.armAllWith k s).number = s.number ∧
    (State.armAllWith k s).mode = s.mode ∧ (State.armAllWith k s).voicing = s.voicing ∧
    (State.armAllWith k s).scan = s.scan ∧ (State.armAllWith k s).tracks = s.tracks ∧
    (State.armAllWith k s).pedals = s.pedals ∧ (State.armAllWith k s).prot = s.prot ∧
    (State.armAllWith k s).conv = s.conv ∧ (State.armAllWith k s).pending = s.pending := by
  induction k generalizing s with
  | zero => simp [State.armAllWith]
  | succ k ih =>
    simp only [State.armAllWith]
    split <;> simp [ih]

@[simp] theorem State.armAll_keeps (s : State) :
    (s.armAll).now = s.now ∧ (s.armAll).number = s.number ∧ (s.armAll).mode = s.mode ∧
    (s.armAll).voicing = s.voicing ∧ (s.armAll).scan = s.scan ∧ (s.armAll).tracks = s.tracks ∧
    (s.armAll).pedals = s.pedals ∧ (s.armAll).prot = s.prot ∧ (s.armAll).conv = s.conv ∧
    (s.armAll).pending = s.pending := by
  simp only [State.armAll]
  (repeat' split) <;> simp

@[simp] theorem State.onDue_keeps (s : State) (x : NoteState) :
    (s.onDue x).now = s.now ∧ (s.onDue x).number = s.number ∧ (s.onDue x).mode = s.mode ∧
    (s.onDue x).voicing = s.voicing ∧ (s.onDue x).scan = s.scan ∧ (s.onDue x).tracks = s.tracks ∧
    (s.onDue x).pedals = s.pedals ∧ (s.onDue x).prot = s.prot ∧ (s.onDue x).conv = s.conv ∧
    (s.onDue x).pending = s.pending := by
  simp only [State.onDue]
  (repeat' split) <;> simp

@[simp] theorem State.closeNote_keeps (s : State) (k : Driver) (closeTime : Time) :
    (s.closeNote k closeTime).now = s.now ∧ (s.closeNote k closeTime).number = s.number ∧
    (s.closeNote k closeTime).mode = s.mode ∧ (s.closeNote k closeTime).voicing = s.voicing ∧
    (s.closeNote k closeTime).scan = s.scan ∧ (s.closeNote k closeTime).tracks = s.tracks ∧
    (s.closeNote k closeTime).pedals = s.pedals ∧ (s.closeNote k closeTime).prot = s.prot ∧
    (s.closeNote k closeTime).conv = s.conv ∧ (s.closeNote k closeTime).pending = s.pending := by
  simp only [State.closeNote]
  (repeat' split) <;> simp

@[simp] theorem State.onset_keeps (s : State) (k : Driver) (line : Line) (time : Time) :
    (s.onset k line time).now = s.now ∧ (s.onset k line time).number = s.number ∧
    (s.onset k line time).mode = s.mode ∧ (s.onset k line time).voicing = s.voicing ∧
    (s.onset k line time).scan = s.scan ∧ (s.onset k line time).tracks = s.tracks ∧
    (s.onset k line time).pedals = s.pedals ∧ (s.onset k line time).prot = s.prot ∧
    (s.onset k line time).conv = s.conv ∧ (s.onset k line time).pending = s.pending := by
  simp only [State.onset]
  (repeat' split) <;> simp

@[simp] theorem State.releaseAll_keeps (s : State) :
    (s.releaseAll).now = s.now ∧ (s.releaseAll).number = s.number ∧ (s.releaseAll).mode = s.mode ∧
    (s.releaseAll).voicing = s.voicing ∧ (s.releaseAll).scan = s.scan ∧ (s.releaseAll).tracks = s.tracks ∧
    (s.releaseAll).pedals = s.pedals ∧ (s.releaseAll).prot = s.prot ∧ (s.releaseAll).conv = s.conv ∧
    (s.releaseAll).pending = s.pending := by
  simp only [State.releaseAll]
  (repeat' split) <;> simp

@[simp] theorem State.stopNotes_keeps (s : State) :
    (s.stopNotes).now = s.now ∧ (s.stopNotes).number = s.number ∧ (s.stopNotes).mode = s.mode ∧
    (s.stopNotes).voicing = s.voicing ∧ (s.stopNotes).scan = s.scan ∧ (s.stopNotes).tracks = s.tracks ∧
    (s.stopNotes).pedals = s.pedals ∧ (s.stopNotes).prot = s.prot ∧ (s.stopNotes).conv = s.conv ∧
    (s.stopNotes).pending = s.pending := by
  simp [State.stopNotes]

@[simp] theorem State.emptyNotes_keeps (s : State) :
    (s.emptyNotes).now = s.now ∧ (s.emptyNotes).number = s.number ∧ (s.emptyNotes).mode = s.mode ∧
    (s.emptyNotes).voicing = s.voicing ∧ (s.emptyNotes).scan = s.scan ∧ (s.emptyNotes).tracks = s.tracks ∧
    (s.emptyNotes).shade = s.shade ∧ (s.emptyNotes).keys = s.keys ∧ (s.emptyNotes).pedals = s.pedals ∧
    (s.emptyNotes).prot = s.prot ∧ (s.emptyNotes).conv = s.conv ∧ (s.emptyNotes).control = s.control ∧
    (s.emptyNotes).counters = s.counters ∧ (s.emptyNotes).pending = s.pending := by
  simp [State.emptyNotes]

end Sys2Proof.Machine
end

