-- ==== Sys2Proof/Laws/PedalUnit.lean ====
section
/-! SUPPORT. What each operation of Machine/PedalUnit.lean leaves as it was: every part of the state but those its rules change. -/

namespace Sys2Proof.Machine

@[simp] theorem State.drivePedal_keeps (s : State) (p : Pedal) (state : PedalState) (base : Nat) :
    (s.drivePedal p state base).now = s.now ∧ (s.drivePedal p state base).number = s.number ∧
    (s.drivePedal p state base).mode = s.mode ∧ (s.drivePedal p state base).voicing = s.voicing ∧
    (s.drivePedal p state base).scan = s.scan ∧ (s.drivePedal p state base).tracks = s.tracks ∧
    (s.drivePedal p state base).shade = s.shade ∧ (s.drivePedal p state base).notes = s.notes ∧
    (s.drivePedal p state base).keys = s.keys ∧ (s.drivePedal p state base).prot = s.prot ∧
    (s.drivePedal p state base).conv = s.conv ∧ (s.drivePedal p state base).control = s.control ∧
    (s.drivePedal p state base).counters = s.counters ∧ (s.drivePedal p state base).pending = s.pending := by
  simp only [State.drivePedal]
  (repeat' split) <;> simp

@[simp] theorem State.rampPedal_keeps (s : State) (p : Pedal) (position : Position) :
    (s.rampPedal p position).now = s.now ∧ (s.rampPedal p position).number = s.number ∧
    (s.rampPedal p position).mode = s.mode ∧ (s.rampPedal p position).voicing = s.voicing ∧
    (s.rampPedal p position).scan = s.scan ∧ (s.rampPedal p position).tracks = s.tracks ∧
    (s.rampPedal p position).shade = s.shade ∧ (s.rampPedal p position).notes = s.notes ∧
    (s.rampPedal p position).keys = s.keys ∧ (s.rampPedal p position).prot = s.prot ∧
    (s.rampPedal p position).conv = s.conv ∧ (s.rampPedal p position).control = s.control ∧
    (s.rampPedal p position).counters = s.counters ∧ (s.rampPedal p position).pending = s.pending := by
  simp only [State.rampPedal]
  (repeat' split) <;> simp

@[simp] theorem State.commandPedal_keeps (s : State) (p : Pedal) (position : Position) :
    (s.commandPedal p position).now = s.now ∧ (s.commandPedal p position).number = s.number ∧
    (s.commandPedal p position).mode = s.mode ∧ (s.commandPedal p position).voicing = s.voicing ∧
    (s.commandPedal p position).scan = s.scan ∧ (s.commandPedal p position).tracks = s.tracks ∧
    (s.commandPedal p position).shade = s.shade ∧ (s.commandPedal p position).notes = s.notes ∧
    (s.commandPedal p position).keys = s.keys ∧ (s.commandPedal p position).share = s.share ∧
    (s.commandPedal p position).prot = s.prot ∧ (s.commandPedal p position).conv = s.conv ∧
    (s.commandPedal p position).link = s.link ∧ (s.commandPedal p position).control = s.control ∧
    (s.commandPedal p position).counters = s.counters ∧ (s.commandPedal p position).pending = s.pending := by
  simp only [State.commandPedal]
  (repeat' split) <;> simp

@[simp] theorem State.actPedal_keeps (s : State) (p : Pedal) (position : Position) (modeAllows : Bool) :
    (s.actPedal p position modeAllows).now = s.now ∧ (s.actPedal p position modeAllows).number = s.number ∧
    (s.actPedal p position modeAllows).mode = s.mode ∧ (s.actPedal p position modeAllows).voicing = s.voicing ∧
    (s.actPedal p position modeAllows).scan = s.scan ∧ (s.actPedal p position modeAllows).tracks = s.tracks ∧
    (s.actPedal p position modeAllows).shade = s.shade ∧ (s.actPedal p position modeAllows).notes = s.notes ∧
    (s.actPedal p position modeAllows).keys = s.keys ∧ (s.actPedal p position modeAllows).prot = s.prot ∧
    (s.actPedal p position modeAllows).conv = s.conv ∧ (s.actPedal p position modeAllows).control = s.control ∧
    (s.actPedal p position modeAllows).counters = s.counters ∧ (s.actPedal p position modeAllows).pending = s.pending := by
  simp only [State.actPedal]
  (repeat' split) <;> simp

@[simp] theorem State.restPedal_keeps (s : State) (p : Pedal) :
    (s.restPedal p).now = s.now ∧ (s.restPedal p).number = s.number ∧ (s.restPedal p).mode = s.mode ∧
    (s.restPedal p).voicing = s.voicing ∧ (s.restPedal p).scan = s.scan ∧ (s.restPedal p).tracks = s.tracks ∧
    (s.restPedal p).shade = s.shade ∧ (s.restPedal p).notes = s.notes ∧ (s.restPedal p).keys = s.keys ∧
    (s.restPedal p).prot = s.prot ∧ (s.restPedal p).conv = s.conv ∧ (s.restPedal p).control = s.control ∧
    (s.restPedal p).counters = s.counters ∧ (s.restPedal p).pending = s.pending := by
  simp only [State.restPedal]
  (repeat' split) <;> simp

@[simp] theorem State.restorePedal_keeps (s : State) (p : Pedal) :
    (s.restorePedal p).now = s.now ∧ (s.restorePedal p).number = s.number ∧ (s.restorePedal p).mode = s.mode ∧
    (s.restorePedal p).voicing = s.voicing ∧ (s.restorePedal p).scan = s.scan ∧
    (s.restorePedal p).tracks = s.tracks ∧ (s.restorePedal p).shade = s.shade ∧ (s.restorePedal p).notes = s.notes ∧
    (s.restorePedal p).keys = s.keys ∧ (s.restorePedal p).prot = s.prot ∧ (s.restorePedal p).conv = s.conv ∧
    (s.restorePedal p).control = s.control ∧ (s.restorePedal p).counters = s.counters ∧
    (s.restorePedal p).pending = s.pending := by
  simp only [State.restorePedal]
  (repeat' split) <;> simp

@[simp] theorem State.faultPedal_keeps (s : State) (p : Pedal) :
    (s.faultPedal p).now = s.now ∧ (s.faultPedal p).number = s.number ∧ (s.faultPedal p).mode = s.mode ∧
    (s.faultPedal p).voicing = s.voicing ∧ (s.faultPedal p).scan = s.scan ∧ (s.faultPedal p).tracks = s.tracks ∧
    (s.faultPedal p).shade = s.shade ∧ (s.faultPedal p).notes = s.notes ∧ (s.faultPedal p).keys = s.keys ∧
    (s.faultPedal p).prot = s.prot ∧ (s.faultPedal p).conv = s.conv ∧ (s.faultPedal p).control = s.control ∧
    (s.faultPedal p).counters = s.counters ∧ (s.faultPedal p).pending = s.pending := by
  simp only [State.faultPedal]
  (repeat' split) <;> simp

@[simp] theorem State.recompensatePedal_keeps (s : State) (p : Pedal) :
    (s.recompensatePedal p).now = s.now ∧ (s.recompensatePedal p).number = s.number ∧
    (s.recompensatePedal p).mode = s.mode ∧ (s.recompensatePedal p).voicing = s.voicing ∧
    (s.recompensatePedal p).scan = s.scan ∧ (s.recompensatePedal p).tracks = s.tracks ∧
    (s.recompensatePedal p).shade = s.shade ∧ (s.recompensatePedal p).notes = s.notes ∧
    (s.recompensatePedal p).keys = s.keys ∧ (s.recompensatePedal p).share = s.share ∧
    (s.recompensatePedal p).prot = s.prot ∧ (s.recompensatePedal p).conv = s.conv ∧
    (s.recompensatePedal p).link = s.link ∧ (s.recompensatePedal p).control = s.control ∧
    (s.recompensatePedal p).counters = s.counters ∧ (s.recompensatePedal p).pending = s.pending := by
  simp only [State.recompensatePedal]
  (repeat' split) <;> simp

@[simp] theorem State.onRampStep_keeps (s : State) (p : Pedal) :
    (s.onRampStep p).now = s.now ∧ (s.onRampStep p).number = s.number ∧ (s.onRampStep p).voicing = s.voicing ∧
    (s.onRampStep p).scan = s.scan ∧ (s.onRampStep p).tracks = s.tracks ∧ (s.onRampStep p).shade = s.shade ∧
    (s.onRampStep p).notes = s.notes ∧ (s.onRampStep p).keys = s.keys ∧ (s.onRampStep p).prot = s.prot ∧
    (s.onRampStep p).conv = s.conv ∧ (s.onRampStep p).control = s.control ∧ (s.onRampStep p).counters = s.counters ∧
    (s.onRampStep p).pending = s.pending := by
  simp only [State.onRampStep]
  (repeat' split) <;> simp

@[simp] theorem State.takePedalEvent_keeps (s : State) (p : Pedal) :
    (s.takePedalEvent p).now = s.now ∧ (s.takePedalEvent p).number = s.number ∧ (s.takePedalEvent p).mode = s.mode ∧
    (s.takePedalEvent p).voicing = s.voicing ∧ (s.takePedalEvent p).scan = s.scan ∧
    (s.takePedalEvent p).tracks = s.tracks ∧ (s.takePedalEvent p).shade = s.shade ∧
    (s.takePedalEvent p).notes = s.notes ∧ (s.takePedalEvent p).keys = s.keys ∧ (s.takePedalEvent p).prot = s.prot ∧
    (s.takePedalEvent p).conv = s.conv ∧ (s.takePedalEvent p).control = s.control ∧
    (s.takePedalEvent p).counters = s.counters ∧ (s.takePedalEvent p).pending = s.pending := by
  simp only [State.takePedalEvent]
  (repeat' split) <;> simp

@[simp] theorem State.actIfFirst_keeps (s : State) (p : Pedal) (line : Line) :
    (s.actIfFirst p line).now = s.now ∧ (s.actIfFirst p line).number = s.number ∧
    (s.actIfFirst p line).mode = s.mode ∧ (s.actIfFirst p line).voicing = s.voicing ∧
    (s.actIfFirst p line).scan = s.scan ∧ (s.actIfFirst p line).tracks = s.tracks ∧
    (s.actIfFirst p line).shade = s.shade ∧ (s.actIfFirst p line).notes = s.notes ∧
    (s.actIfFirst p line).keys = s.keys ∧ (s.actIfFirst p line).prot = s.prot ∧ (s.actIfFirst p line).conv = s.conv ∧
    (s.actIfFirst p line).control = s.control ∧ (s.actIfFirst p line).counters = s.counters ∧
    (s.actIfFirst p line).pending = s.pending := by
  simp only [State.actIfFirst]
  (repeat' split) <;> simp

@[simp] theorem State.enterPedalEvent_keeps (s : State) (m : PedalMove) :
    (s.enterPedalEvent m).now = s.now ∧ (s.enterPedalEvent m).number = s.number ∧
    (s.enterPedalEvent m).mode = s.mode ∧ (s.enterPedalEvent m).voicing = s.voicing ∧
    (s.enterPedalEvent m).scan = s.scan ∧ (s.enterPedalEvent m).tracks = s.tracks ∧
    (s.enterPedalEvent m).shade = s.shade ∧ (s.enterPedalEvent m).notes = s.notes ∧
    (s.enterPedalEvent m).keys = s.keys ∧ (s.enterPedalEvent m).prot = s.prot ∧ (s.enterPedalEvent m).conv = s.conv ∧
    (s.enterPedalEvent m).control = s.control ∧ (s.enterPedalEvent m).pending = s.pending := by
  simp only [State.enterPedalEvent]
  (repeat' split) <;> simp

@[simp] theorem State.timePedalEvents_keeps (s : State) (line : Line) (p : Pedal) :
    (s.timePedalEvents line p).now = s.now ∧ (s.timePedalEvents line p).number = s.number ∧
    (s.timePedalEvents line p).mode = s.mode ∧ (s.timePedalEvents line p).voicing = s.voicing ∧
    (s.timePedalEvents line p).scan = s.scan ∧ (s.timePedalEvents line p).tracks = s.tracks ∧
    (s.timePedalEvents line p).shade = s.shade ∧ (s.timePedalEvents line p).notes = s.notes ∧
    (s.timePedalEvents line p).keys = s.keys ∧ (s.timePedalEvents line p).prot = s.prot ∧
    (s.timePedalEvents line p).conv = s.conv ∧ (s.timePedalEvents line p).control = s.control ∧
    (s.timePedalEvents line p).counters = s.counters ∧ (s.timePedalEvents line p).pending = s.pending := by
  simp only [State.timePedalEvents]
  (repeat' split) <;> simp

@[simp] theorem State.emptyPedalEvents_keeps (s : State) :
    (s.emptyPedalEvents).now = s.now ∧ (s.emptyPedalEvents).number = s.number ∧ (s.emptyPedalEvents).mode = s.mode ∧
    (s.emptyPedalEvents).voicing = s.voicing ∧ (s.emptyPedalEvents).scan = s.scan ∧
    (s.emptyPedalEvents).tracks = s.tracks ∧ (s.emptyPedalEvents).shade = s.shade ∧
    (s.emptyPedalEvents).notes = s.notes ∧ (s.emptyPedalEvents).keys = s.keys ∧
    (s.emptyPedalEvents).share = s.share ∧ (s.emptyPedalEvents).prot = s.prot ∧ (s.emptyPedalEvents).conv = s.conv ∧
    (s.emptyPedalEvents).link = s.link ∧ (s.emptyPedalEvents).control = s.control ∧
    (s.emptyPedalEvents).counters = s.counters ∧ (s.emptyPedalEvents).pending = s.pending := by
  simp only [State.emptyPedalEvents]
  (repeat' split) <;> simp

@[simp] theorem State.feedPedal_keeps (s : State) :
    (s.feedPedal).now = s.now ∧ (s.feedPedal).number = s.number ∧ (s.feedPedal).mode = s.mode ∧
    (s.feedPedal).voicing = s.voicing ∧ (s.feedPedal).scan = s.scan ∧ (s.feedPedal).tracks = s.tracks ∧
    (s.feedPedal).shade = s.shade ∧ (s.feedPedal).notes = s.notes ∧ (s.feedPedal).keys = s.keys ∧
    (s.feedPedal).share = s.share ∧ (s.feedPedal).prot = s.prot ∧ (s.feedPedal).conv = s.conv ∧
    (s.feedPedal).control = s.control ∧ (s.feedPedal).counters = s.counters ∧ (s.feedPedal).pending = s.pending := by
  simp only [State.feedPedal]
  (repeat' split) <;> simp

@[simp] theorem State.queuePedal_keeps (s : State) (m : PedalMove) :
    (s.queuePedal m).now = s.now ∧ (s.queuePedal m).number = s.number ∧ (s.queuePedal m).mode = s.mode ∧
    (s.queuePedal m).voicing = s.voicing ∧ (s.queuePedal m).scan = s.scan ∧ (s.queuePedal m).tracks = s.tracks ∧
    (s.queuePedal m).shade = s.shade ∧ (s.queuePedal m).notes = s.notes ∧ (s.queuePedal m).keys = s.keys ∧
    (s.queuePedal m).share = s.share ∧ (s.queuePedal m).prot = s.prot ∧ (s.queuePedal m).conv = s.conv ∧
    (s.queuePedal m).control = s.control ∧ (s.queuePedal m).pending = s.pending := by
  simp only [State.queuePedal]
  (repeat' split) <;> simp

@[simp] theorem State.emitPedal_keeps (s : State) (m : PedalMove) :
    (s.emitPedal m).now = s.now ∧ (s.emitPedal m).number = s.number ∧ (s.emitPedal m).mode = s.mode ∧
    (s.emitPedal m).voicing = s.voicing ∧ (s.emitPedal m).scan = s.scan ∧ (s.emitPedal m).tracks = s.tracks ∧
    (s.emitPedal m).shade = s.shade ∧ (s.emitPedal m).notes = s.notes ∧ (s.emitPedal m).keys = s.keys ∧
    (s.emitPedal m).prot = s.prot ∧ (s.emitPedal m).conv = s.conv ∧ (s.emitPedal m).control = s.control ∧
    (s.emitPedal m).pending = s.pending := by
  simp only [State.emitPedal]
  (repeat' split) <;> simp

@[simp] theorem State.pedalEdge_keeps (s : State) (line : Line) :
    (s.pedalEdge line).now = s.now ∧ (s.pedalEdge line).number = s.number ∧ (s.pedalEdge line).mode = s.mode ∧
    (s.pedalEdge line).voicing = s.voicing ∧ (s.pedalEdge line).scan = s.scan ∧
    (s.pedalEdge line).tracks = s.tracks ∧ (s.pedalEdge line).shade = s.shade ∧ (s.pedalEdge line).notes = s.notes ∧
    (s.pedalEdge line).keys = s.keys ∧ (s.pedalEdge line).prot = s.prot ∧ (s.pedalEdge line).conv = s.conv ∧
    (s.pedalEdge line).control = s.control ∧ (s.pedalEdge line).pending = s.pending := by
  simp only [State.pedalEdge]
  (repeat' split) <;> simp

@[simp] theorem State.reannouncePedals_keeps (s : State) (line : Line) :
    (s.reannouncePedals line).now = s.now ∧ (s.reannouncePedals line).number = s.number ∧
    (s.reannouncePedals line).mode = s.mode ∧ (s.reannouncePedals line).voicing = s.voicing ∧
    (s.reannouncePedals line).scan = s.scan ∧ (s.reannouncePedals line).tracks = s.tracks ∧
    (s.reannouncePedals line).shade = s.shade ∧ (s.reannouncePedals line).notes = s.notes ∧
    (s.reannouncePedals line).keys = s.keys ∧ (s.reannouncePedals line).prot = s.prot ∧
    (s.reannouncePedals line).conv = s.conv ∧ (s.reannouncePedals line).control = s.control ∧
    (s.reannouncePedals line).pending = s.pending := by
  simp only [State.reannouncePedals]
  (repeat' split) <;> simp

@[simp] theorem State.takePedalFrame_keeps (s : State) (e : Entry) (p : Pedal) (code : BitVec 2) (line : Line) :
    (s.takePedalFrame e p code line).now = s.now ∧ (s.takePedalFrame e p code line).number = s.number ∧
    (s.takePedalFrame e p code line).mode = s.mode ∧ (s.takePedalFrame e p code line).voicing = s.voicing ∧
    (s.takePedalFrame e p code line).scan = s.scan ∧ (s.takePedalFrame e p code line).tracks = s.tracks ∧
    (s.takePedalFrame e p code line).shade = s.shade ∧ (s.takePedalFrame e p code line).notes = s.notes ∧
    (s.takePedalFrame e p code line).keys = s.keys ∧ (s.takePedalFrame e p code line).prot = s.prot ∧
    (s.takePedalFrame e p code line).conv = s.conv ∧ (s.takePedalFrame e p code line).control = s.control ∧
    (s.takePedalFrame e p code line).pending = s.pending := by
  simp only [State.takePedalFrame]
  (repeat' split) <;> simp

end Sys2Proof.Machine
end

