-- ==== Sys2Proof/Laws/Monitors.lean ====
section
/-! SUPPORT. What each operation of Machine/Monitors.lean leaves as it was: every part of the state but those its rules change. -/

namespace Sys2Proof.Machine

@[simp] theorem State.setOverRun_keeps (s : State) (x : Option Time) (stage : Stage) :
    (s.setOverRun x stage).now = s.now ∧ (s.setOverRun x stage).number = s.number ∧
    (s.setOverRun x stage).mode = s.mode ∧ (s.setOverRun x stage).voicing = s.voicing ∧
    (s.setOverRun x stage).scan = s.scan ∧ (s.setOverRun x stage).tracks = s.tracks ∧
    (s.setOverRun x stage).shade = s.shade ∧ (s.setOverRun x stage).notes = s.notes ∧
    (s.setOverRun x stage).share = s.share ∧ (s.setOverRun x stage).prot = s.prot ∧
    (s.setOverRun x stage).conv = s.conv ∧ (s.setOverRun x stage).link = s.link ∧
    (s.setOverRun x stage).control = s.control ∧ (s.setOverRun x stage).counters = s.counters ∧
    (s.setOverRun x stage).pending = s.pending := by
  simp only [State.setOverRun]
  (repeat' split) <;> simp

@[simp] theorem State.onTripCrossing_keeps (s : State) (stage : Stage) (above : Bool) :
    (s.onTripCrossing stage above).now = s.now ∧ (s.onTripCrossing stage above).number = s.number ∧
    (s.onTripCrossing stage above).mode = s.mode ∧ (s.onTripCrossing stage above).voicing = s.voicing ∧
    (s.onTripCrossing stage above).scan = s.scan ∧ (s.onTripCrossing stage above).tracks = s.tracks ∧
    (s.onTripCrossing stage above).shade = s.shade ∧ (s.onTripCrossing stage above).notes = s.notes ∧
    (s.onTripCrossing stage above).share = s.share ∧ (s.onTripCrossing stage above).prot = s.prot ∧
    (s.onTripCrossing stage above).conv = s.conv ∧ (s.onTripCrossing stage above).link = s.link ∧
    (s.onTripCrossing stage above).control = s.control ∧ (s.onTripCrossing stage above).counters = s.counters ∧
    (s.onTripCrossing stage above).pending = s.pending := by
  simp only [State.onTripCrossing]
  (repeat' split) <;> simp

@[simp] theorem State.onOpenCrossing_keeps (s : State) (k : Driver) (below : Bool) :
    (s.onOpenCrossing k below).now = s.now ∧ (s.onOpenCrossing k below).number = s.number ∧
    (s.onOpenCrossing k below).mode = s.mode ∧ (s.onOpenCrossing k below).voicing = s.voicing ∧
    (s.onOpenCrossing k below).scan = s.scan ∧ (s.onOpenCrossing k below).tracks = s.tracks ∧
    (s.onOpenCrossing k below).shade = s.shade ∧ (s.onOpenCrossing k below).notes = s.notes ∧
    (s.onOpenCrossing k below).pedals = s.pedals ∧ (s.onOpenCrossing k below).share = s.share ∧
    (s.onOpenCrossing k below).prot = s.prot ∧ (s.onOpenCrossing k below).conv = s.conv ∧
    (s.onOpenCrossing k below).link = s.link ∧ (s.onOpenCrossing k below).control = s.control ∧
    (s.onOpenCrossing k below).counters = s.counters ∧ (s.onOpenCrossing k below).pending = s.pending := by
  simp only [State.onOpenCrossing]
  (repeat' split) <;> simp

@[simp] theorem State.onOpenLoad_keeps (s : State) (k : Driver) :
    (s.onOpenLoad k).now = s.now ∧ (s.onOpenLoad k).number = s.number ∧ (s.onOpenLoad k).mode = s.mode ∧
    (s.onOpenLoad k).voicing = s.voicing ∧ (s.onOpenLoad k).scan = s.scan ∧ (s.onOpenLoad k).tracks = s.tracks ∧
    (s.onOpenLoad k).shade = s.shade ∧ (s.onOpenLoad k).notes = s.notes ∧ (s.onOpenLoad k).pedals = s.pedals ∧
    (s.onOpenLoad k).share = s.share ∧ (s.onOpenLoad k).prot = s.prot ∧ (s.onOpenLoad k).conv = s.conv ∧
    (s.onOpenLoad k).link = s.link ∧ (s.onOpenLoad k).control = s.control ∧ (s.onOpenLoad k).counters = s.counters ∧
    (s.onOpenLoad k).pending = s.pending := by
  simp only [State.onOpenLoad]
  (repeat' split) <;> simp

@[simp] theorem State.onOvercurrent_keeps (s : State) (k : Driver) :
    (s.onOvercurrent k).now = s.now ∧ (s.onOvercurrent k).number = s.number ∧
    (s.onOvercurrent k).voicing = s.voicing ∧ (s.onOvercurrent k).scan = s.scan ∧
    (s.onOvercurrent k).tracks = s.tracks ∧ (s.onOvercurrent k).shade = s.shade ∧
    (s.onOvercurrent k).pedals = s.pedals ∧ (s.onOvercurrent k).prot = s.prot ∧ (s.onOvercurrent k).conv = s.conv ∧
    (s.onOvercurrent k).pending = s.pending := by
  simp only [State.onOvercurrent]
  (repeat' split) <;> simp

@[simp] theorem State.onPedalOvercurrent_keeps (s : State) (p : Pedal) :
    (s.onPedalOvercurrent p).now = s.now ∧ (s.onPedalOvercurrent p).number = s.number ∧
    (s.onPedalOvercurrent p).voicing = s.voicing ∧ (s.onPedalOvercurrent p).scan = s.scan ∧
    (s.onPedalOvercurrent p).tracks = s.tracks ∧ (s.onPedalOvercurrent p).shade = s.shade ∧
    (s.onPedalOvercurrent p).notes = s.notes ∧ (s.onPedalOvercurrent p).keys = s.keys ∧
    (s.onPedalOvercurrent p).prot = s.prot ∧ (s.onPedalOvercurrent p).conv = s.conv ∧
    (s.onPedalOvercurrent p).control = s.control ∧ (s.onPedalOvercurrent p).counters = s.counters ∧
    (s.onPedalOvercurrent p).pending = s.pending := by
  simp only [State.onPedalOvercurrent]
  (repeat' split) <;> simp

end Sys2Proof.Machine
end

