-- ==== Sys2Proof/Laws/Claims.lean ====
section
/-! SUPPORT. What each operation of Machine/Claims.lean leaves as it was: every part of the state but those its rules change. -/

namespace Sys2Proof.Machine

@[simp] theorem State.refitAndQueue_keeps (s : State) (c : ClaimId) :
    (s.refitAndQueue c).now = s.now ∧ (s.refitAndQueue c).number = s.number ∧ (s.refitAndQueue c).mode = s.mode ∧
    (s.refitAndQueue c).voicing = s.voicing ∧ (s.refitAndQueue c).scan = s.scan ∧
    (s.refitAndQueue c).tracks = s.tracks ∧ (s.refitAndQueue c).pedals = s.pedals ∧
    (s.refitAndQueue c).prot = s.prot ∧ (s.refitAndQueue c).conv = s.conv ∧ (s.refitAndQueue c).pending = s.pending := by
  simp only [State.refitAndQueue]
  (repeat' split) <;> simp

@[simp] theorem State.recheckSlot_keeps (s : State) (c : ClaimId) :
    (s.recheckSlot c).now = s.now ∧ (s.recheckSlot c).number = s.number ∧ (s.recheckSlot c).mode = s.mode ∧
    (s.recheckSlot c).voicing = s.voicing ∧ (s.recheckSlot c).scan = s.scan ∧ (s.recheckSlot c).tracks = s.tracks ∧
    (s.recheckSlot c).pedals = s.pedals ∧ (s.recheckSlot c).prot = s.prot ∧ (s.recheckSlot c).conv = s.conv ∧
    (s.recheckSlot c).pending = s.pending := by
  simp only [State.recheckSlot]
  (repeat' split) <;> simp

@[simp] theorem State.recheck_keeps (s : State) :
    (s.recheck).now = s.now ∧ (s.recheck).number = s.number ∧ (s.recheck).mode = s.mode ∧
    (s.recheck).voicing = s.voicing ∧ (s.recheck).scan = s.scan ∧ (s.recheck).tracks = s.tracks ∧
    (s.recheck).pedals = s.pedals ∧ (s.recheck).prot = s.prot ∧ (s.recheck).conv = s.conv ∧
    (s.recheck).pending = s.pending := by
  simp only [State.recheck]
  (repeat' split) <;> simp

@[simp] theorem State.cancelClaims_keeps (s : State) :
    (s.cancelClaims).now = s.now ∧ (s.cancelClaims).number = s.number ∧ (s.cancelClaims).mode = s.mode ∧
    (s.cancelClaims).voicing = s.voicing ∧ (s.cancelClaims).scan = s.scan ∧ (s.cancelClaims).tracks = s.tracks ∧
    (s.cancelClaims).shade = s.shade ∧ (s.cancelClaims).notes = s.notes ∧ (s.cancelClaims).keys = s.keys ∧
    (s.cancelClaims).pedals = s.pedals ∧ (s.cancelClaims).share = s.share ∧ (s.cancelClaims).prot = s.prot ∧
    (s.cancelClaims).conv = s.conv ∧ (s.cancelClaims).control = s.control ∧ (s.cancelClaims).counters = s.counters ∧
    (s.cancelClaims).pending = s.pending := by
  simp only [State.cancelClaims]
  (repeat' split) <;> simp

@[simp] theorem State.hearPeer_keeps (s : State) (n : StationNo) :
    (s.hearPeer n).now = s.now ∧ (s.hearPeer n).number = s.number ∧ (s.hearPeer n).mode = s.mode ∧
    (s.hearPeer n).voicing = s.voicing ∧ (s.hearPeer n).scan = s.scan ∧ (s.hearPeer n).tracks = s.tracks ∧
    (s.hearPeer n).shade = s.shade ∧ (s.hearPeer n).notes = s.notes ∧ (s.hearPeer n).keys = s.keys ∧
    (s.hearPeer n).pedals = s.pedals ∧ (s.hearPeer n).prot = s.prot ∧ (s.hearPeer n).conv = s.conv ∧
    (s.hearPeer n).link = s.link ∧ (s.hearPeer n).control = s.control ∧ (s.hearPeer n).counters = s.counters ∧
    (s.hearPeer n).pending = s.pending := by
  simp only [State.hearPeer]
  (repeat' split) <;> simp

@[simp] theorem State.takeLoad_keeps (s : State) (e : Entry) (value : Nat) :
    (s.takeLoad e value).now = s.now ∧ (s.takeLoad e value).number = s.number ∧ (s.takeLoad e value).mode = s.mode ∧
    (s.takeLoad e value).voicing = s.voicing ∧ (s.takeLoad e value).scan = s.scan ∧
    (s.takeLoad e value).tracks = s.tracks ∧ (s.takeLoad e value).pedals = s.pedals ∧
    (s.takeLoad e value).prot = s.prot ∧ (s.takeLoad e value).conv = s.conv ∧ (s.takeLoad e value).pending = s.pending := by
  simp only [State.takeLoad]
  (repeat' split) <;> simp

@[simp] theorem State.takeOwnClaim_keeps (s : State) (r : ClaimRecord) :
    (s.takeOwnClaim r).now = s.now ∧ (s.takeOwnClaim r).number = s.number ∧ (s.takeOwnClaim r).mode = s.mode ∧
    (s.takeOwnClaim r).voicing = s.voicing ∧ (s.takeOwnClaim r).scan = s.scan ∧
    (s.takeOwnClaim r).tracks = s.tracks ∧ (s.takeOwnClaim r).shade = s.shade ∧ (s.takeOwnClaim r).notes = s.notes ∧
    (s.takeOwnClaim r).keys = s.keys ∧ (s.takeOwnClaim r).pedals = s.pedals ∧ (s.takeOwnClaim r).prot = s.prot ∧
    (s.takeOwnClaim r).conv = s.conv ∧ (s.takeOwnClaim r).link = s.link ∧ (s.takeOwnClaim r).control = s.control ∧
    (s.takeOwnClaim r).counters = s.counters ∧ (s.takeOwnClaim r).pending = s.pending := by
  simp only [State.takeOwnClaim]
  (repeat' split) <;> simp

@[simp] theorem State.takeClaim_keeps (s : State) (e : Entry) (r : ClaimRecord) :
    (s.takeClaim e r).now = s.now ∧ (s.takeClaim e r).number = s.number ∧ (s.takeClaim e r).mode = s.mode ∧
    (s.takeClaim e r).voicing = s.voicing ∧ (s.takeClaim e r).scan = s.scan ∧ (s.takeClaim e r).tracks = s.tracks ∧
    (s.takeClaim e r).pedals = s.pedals ∧ (s.takeClaim e r).prot = s.prot ∧ (s.takeClaim e r).conv = s.conv ∧
    (s.takeClaim e r).pending = s.pending := by
  simp only [State.takeClaim]
  (repeat' split) <;> simp

@[simp] theorem State.onLoadRefresh_keeps (s : State) :
    (s.onLoadRefresh).now = s.now ∧ (s.onLoadRefresh).number = s.number ∧ (s.onLoadRefresh).mode = s.mode ∧
    (s.onLoadRefresh).voicing = s.voicing ∧ (s.onLoadRefresh).scan = s.scan ∧ (s.onLoadRefresh).tracks = s.tracks ∧
    (s.onLoadRefresh).shade = s.shade ∧ (s.onLoadRefresh).notes = s.notes ∧ (s.onLoadRefresh).keys = s.keys ∧
    (s.onLoadRefresh).pedals = s.pedals ∧ (s.onLoadRefresh).prot = s.prot ∧ (s.onLoadRefresh).conv = s.conv ∧
    (s.onLoadRefresh).control = s.control ∧ (s.onLoadRefresh).counters = s.counters ∧
    (s.onLoadRefresh).pending = s.pending := by
  simp only [State.onLoadRefresh]
  (repeat' split) <;> simp

@[simp] theorem State.onPeerAbsent_keeps (s : State) (n : StationNo) :
    (s.onPeerAbsent n).now = s.now ∧ (s.onPeerAbsent n).number = s.number ∧ (s.onPeerAbsent n).mode = s.mode ∧
    (s.onPeerAbsent n).voicing = s.voicing ∧ (s.onPeerAbsent n).scan = s.scan ∧
    (s.onPeerAbsent n).tracks = s.tracks ∧ (s.onPeerAbsent n).shade = s.shade ∧ (s.onPeerAbsent n).notes = s.notes ∧
    (s.onPeerAbsent n).keys = s.keys ∧ (s.onPeerAbsent n).pedals = s.pedals ∧ (s.onPeerAbsent n).prot = s.prot ∧
    (s.onPeerAbsent n).conv = s.conv ∧ (s.onPeerAbsent n).link = s.link ∧ (s.onPeerAbsent n).control = s.control ∧
    (s.onPeerAbsent n).counters = s.counters ∧ (s.onPeerAbsent n).pending = s.pending := by
  simp only [State.onPeerAbsent]
  (repeat' split) <;> simp

end Sys2Proof.Machine
end

