-- ==== Sys2Proof/Laws/MeasurementConverter.lean ====
section
/-! SUPPORT. What each operation of Machine/MeasurementConverter.lean leaves as it was: every part of the state but those its rules change. -/

namespace Sys2Proof.Machine

@[simp] theorem State.beginConversion_keeps (s : State) (source : Source) (probe : Option ProbeId) :
    (s.beginConversion source probe).now = s.now ∧ (s.beginConversion source probe).number = s.number ∧
    (s.beginConversion source probe).mode = s.mode ∧ (s.beginConversion source probe).voicing = s.voicing ∧
    (s.beginConversion source probe).scan = s.scan ∧ (s.beginConversion source probe).tracks = s.tracks ∧
    (s.beginConversion source probe).shade = s.shade ∧ (s.beginConversion source probe).notes = s.notes ∧
    (s.beginConversion source probe).keys = s.keys ∧ (s.beginConversion source probe).pedals = s.pedals ∧
    (s.beginConversion source probe).share = s.share ∧ (s.beginConversion source probe).prot = s.prot ∧
    (s.beginConversion source probe).link = s.link ∧ (s.beginConversion source probe).control = s.control ∧
    (s.beginConversion source probe).counters = s.counters ∧ (s.beginConversion source probe).pending = s.pending := by
  simp only [State.beginConversion]
  (repeat' split) <;> simp

@[simp] theorem State.onSampleDue_keeps (s : State) :
    (s.onSampleDue).now = s.now ∧ (s.onSampleDue).number = s.number ∧ (s.onSampleDue).mode = s.mode ∧
    (s.onSampleDue).voicing = s.voicing ∧ (s.onSampleDue).scan = s.scan ∧ (s.onSampleDue).tracks = s.tracks ∧
    (s.onSampleDue).shade = s.shade ∧ (s.onSampleDue).notes = s.notes ∧ (s.onSampleDue).keys = s.keys ∧
    (s.onSampleDue).pedals = s.pedals ∧ (s.onSampleDue).share = s.share ∧ (s.onSampleDue).prot = s.prot ∧
    (s.onSampleDue).link = s.link ∧ (s.onSampleDue).control = s.control ∧ (s.onSampleDue).counters = s.counters ∧
    (s.onSampleDue).pending = s.pending := by
  simp only [State.onSampleDue]
  (repeat' split) <;> simp

@[simp] theorem State.endConversion_keeps (s : State) (x : Conversion) :
    (s.endConversion x).now = s.now ∧ (s.endConversion x).number = s.number ∧ (s.endConversion x).mode = s.mode ∧
    (s.endConversion x).voicing = s.voicing ∧ (s.endConversion x).scan = s.scan ∧
    (s.endConversion x).tracks = s.tracks ∧ (s.endConversion x).shade = s.shade ∧
    (s.endConversion x).notes = s.notes ∧ (s.endConversion x).keys = s.keys ∧ (s.endConversion x).pedals = s.pedals ∧
    (s.endConversion x).share = s.share ∧ (s.endConversion x).prot = s.prot ∧ (s.endConversion x).link = s.link ∧
    (s.endConversion x).control = s.control ∧ (s.endConversion x).counters = s.counters ∧
    (s.endConversion x).pending = s.pending := by
  simp only [State.endConversion, State.beginProbe, State.beginSample]
  split <;> split <;> split <;> simp

@[simp] theorem State.requestProbe_keeps (s : State) (source : Source) (probe : ProbeId) :
    (s.requestProbe source probe).now = s.now ∧ (s.requestProbe source probe).number = s.number ∧
    (s.requestProbe source probe).mode = s.mode ∧ (s.requestProbe source probe).voicing = s.voicing ∧
    (s.requestProbe source probe).scan = s.scan ∧ (s.requestProbe source probe).tracks = s.tracks ∧
    (s.requestProbe source probe).shade = s.shade ∧ (s.requestProbe source probe).notes = s.notes ∧
    (s.requestProbe source probe).keys = s.keys ∧ (s.requestProbe source probe).pedals = s.pedals ∧
    (s.requestProbe source probe).share = s.share ∧ (s.requestProbe source probe).prot = s.prot ∧
    (s.requestProbe source probe).link = s.link ∧ (s.requestProbe source probe).control = s.control ∧
    (s.requestProbe source probe).counters = s.counters ∧ (s.requestProbe source probe).pending = s.pending := by
  simp only [State.requestProbe]
  (repeat' split) <;> simp

end Sys2Proof.Machine
end

