-- ==== Sys2Proof/Laws/ProtectionMonitor.lean ====
section
/-! SUPPORT. What each operation of Machine/ProtectionMonitor.lean leaves as it was: every part of the state but those its rules change. -/

namespace Sys2Proof.Machine

@[simp] theorem forKeys_silenceKey_keeps (s : State) (ks : List Driver) :
    (s.forKeys ks State.silenceKey).now = s.now ∧ (s.forKeys ks State.silenceKey).number = s.number ∧
    (s.forKeys ks State.silenceKey).mode = s.mode ∧ (s.forKeys ks State.silenceKey).voicing = s.voicing ∧
    (s.forKeys ks State.silenceKey).scan = s.scan ∧ (s.forKeys ks State.silenceKey).tracks = s.tracks ∧
    (s.forKeys ks State.silenceKey).shade = s.shade ∧ (s.forKeys ks State.silenceKey).notes = s.notes ∧
    (s.forKeys ks State.silenceKey).pedals = s.pedals ∧ (s.forKeys ks State.silenceKey).prot = s.prot ∧
    (s.forKeys ks State.silenceKey).conv = s.conv ∧ (s.forKeys ks State.silenceKey).control = s.control ∧
    (s.forKeys ks State.silenceKey).counters = s.counters ∧ (s.forKeys ks State.silenceKey).pending = s.pending :=
  ⟨foldl_keeps State.now _ (by simp) _ _, foldl_keeps State.number _ (by simp) _ _,
   foldl_keeps State.mode _ (by simp) _ _, foldl_keeps State.voicing _ (by simp) _ _,
   foldl_keeps State.scan _ (by simp) _ _, foldl_keeps State.tracks _ (by simp) _ _,
   foldl_keeps State.shade _ (by simp) _ _, foldl_keeps State.notes _ (by simp) _ _,
   foldl_keeps State.pedals _ (by simp) _ _, foldl_keeps State.prot _ (by simp) _ _,
   foldl_keeps State.conv _ (by simp) _ _, foldl_keeps State.control _ (by simp) _ _,
   foldl_keeps State.counters _ (by simp) _ _, foldl_keeps State.pending _ (by simp) _ _⟩

@[simp] theorem forKeys_cutKey_keeps (s : State) (ks : List Driver) :
    (s.forKeys ks State.cutKey).now = s.now ∧ (s.forKeys ks State.cutKey).number = s.number ∧
    (s.forKeys ks State.cutKey).mode = s.mode ∧ (s.forKeys ks State.cutKey).voicing = s.voicing ∧
    (s.forKeys ks State.cutKey).scan = s.scan ∧ (s.forKeys ks State.cutKey).tracks = s.tracks ∧
    (s.forKeys ks State.cutKey).shade = s.shade ∧ (s.forKeys ks State.cutKey).pedals = s.pedals ∧
    (s.forKeys ks State.cutKey).prot = s.prot ∧ (s.forKeys ks State.cutKey).conv = s.conv ∧
    (s.forKeys ks State.cutKey).control = s.control ∧ (s.forKeys ks State.cutKey).counters = s.counters ∧
    (s.forKeys ks State.cutKey).pending = s.pending :=
  ⟨foldl_keeps State.now _ (by simp) _ _, foldl_keeps State.number _ (by simp) _ _,
   foldl_keeps State.mode _ (by simp) _ _, foldl_keeps State.voicing _ (by simp) _ _,
   foldl_keeps State.scan _ (by simp) _ _, foldl_keeps State.tracks _ (by simp) _ _,
   foldl_keeps State.shade _ (by simp) _ _, foldl_keeps State.pedals _ (by simp) _ _,
   foldl_keeps State.prot _ (by simp) _ _, foldl_keeps State.conv _ (by simp) _ _,
   foldl_keeps State.control _ (by simp) _ _, foldl_keeps State.counters _ (by simp) _ _,
   foldl_keeps State.pending _ (by simp) _ _⟩

@[simp] theorem forKeys_recompensateKey_keeps (s : State) (ks : List Driver) :
    (s.forKeys ks State.recompensateKey).now = s.now ∧ (s.forKeys ks State.recompensateKey).number = s.number ∧
    (s.forKeys ks State.recompensateKey).mode = s.mode ∧ (s.forKeys ks State.recompensateKey).voicing = s.voicing ∧
    (s.forKeys ks State.recompensateKey).scan = s.scan ∧ (s.forKeys ks State.recompensateKey).tracks = s.tracks ∧
    (s.forKeys ks State.recompensateKey).shade = s.shade ∧ (s.forKeys ks State.recompensateKey).notes = s.notes ∧
    (s.forKeys ks State.recompensateKey).pedals = s.pedals ∧ (s.forKeys ks State.recompensateKey).share = s.share ∧
    (s.forKeys ks State.recompensateKey).prot = s.prot ∧ (s.forKeys ks State.recompensateKey).conv = s.conv ∧
    (s.forKeys ks State.recompensateKey).link = s.link ∧ (s.forKeys ks State.recompensateKey).control = s.control ∧
    (s.forKeys ks State.recompensateKey).counters = s.counters ∧
    (s.forKeys ks State.recompensateKey).pending = s.pending :=
  ⟨foldl_keeps State.now _ (by simp) _ _, foldl_keeps State.number _ (by simp) _ _,
   foldl_keeps State.mode _ (by simp) _ _, foldl_keeps State.voicing _ (by simp) _ _,
   foldl_keeps State.scan _ (by simp) _ _, foldl_keeps State.tracks _ (by simp) _ _,
   foldl_keeps State.shade _ (by simp) _ _, foldl_keeps State.notes _ (by simp) _ _,
   foldl_keeps State.pedals _ (by simp) _ _, foldl_keeps State.share _ (by simp) _ _,
   foldl_keeps State.prot _ (by simp) _ _, foldl_keeps State.conv _ (by simp) _ _,
   foldl_keeps State.link _ (by simp) _ _, foldl_keeps State.control _ (by simp) _ _,
   foldl_keeps State.counters _ (by simp) _ _, foldl_keeps State.pending _ (by simp) _ _⟩

@[simp] theorem forKeys_rewarmKey_keeps (s : State) (ks : List Driver) :
    (s.forKeys ks State.rewarmKey).now = s.now ∧ (s.forKeys ks State.rewarmKey).number = s.number ∧
    (s.forKeys ks State.rewarmKey).mode = s.mode ∧ (s.forKeys ks State.rewarmKey).voicing = s.voicing ∧
    (s.forKeys ks State.rewarmKey).scan = s.scan ∧ (s.forKeys ks State.rewarmKey).tracks = s.tracks ∧
    (s.forKeys ks State.rewarmKey).shade = s.shade ∧ (s.forKeys ks State.rewarmKey).notes = s.notes ∧
    (s.forKeys ks State.rewarmKey).pedals = s.pedals ∧ (s.forKeys ks State.rewarmKey).prot = s.prot ∧
    (s.forKeys ks State.rewarmKey).conv = s.conv ∧ (s.forKeys ks State.rewarmKey).control = s.control ∧
    (s.forKeys ks State.rewarmKey).counters = s.counters ∧ (s.forKeys ks State.rewarmKey).pending = s.pending :=
  ⟨foldl_keeps State.now _ (by simp) _ _, foldl_keeps State.number _ (by simp) _ _,
   foldl_keeps State.mode _ (by simp) _ _, foldl_keeps State.voicing _ (by simp) _ _,
   foldl_keeps State.scan _ (by simp) _ _, foldl_keeps State.tracks _ (by simp) _ _,
   foldl_keeps State.shade _ (by simp) _ _, foldl_keeps State.notes _ (by simp) _ _,
   foldl_keeps State.pedals _ (by simp) _ _, foldl_keeps State.prot _ (by simp) _ _,
   foldl_keeps State.conv _ (by simp) _ _, foldl_keeps State.control _ (by simp) _ _,
   foldl_keeps State.counters _ (by simp) _ _, foldl_keeps State.pending _ (by simp) _ _⟩


@[simp] theorem State.silence_keeps (s : State) :
    (s.silence).now = s.now ∧ (s.silence).number = s.number ∧ (s.silence).voicing = s.voicing ∧
    (s.silence).scan = s.scan ∧ (s.silence).tracks = s.tracks ∧ (s.silence).shade = s.shade ∧
    (s.silence).prot = s.prot ∧ (s.silence).conv = s.conv ∧ (s.silence).control = s.control ∧
    (s.silence).counters = s.counters ∧ (s.silence).pending = s.pending := by
  simp only [State.silence]
  (repeat' split) <;> simp

@[simp] theorem State.assessSupply_keeps (s : State) :
    (s.assessSupply).now = s.now ∧ (s.assessSupply).number = s.number ∧ (s.assessSupply).mode = s.mode ∧
    (s.assessSupply).voicing = s.voicing ∧ (s.assessSupply).scan = s.scan ∧ (s.assessSupply).tracks = s.tracks ∧
    (s.assessSupply).shade = s.shade ∧ (s.assessSupply).notes = s.notes ∧ (s.assessSupply).keys = s.keys ∧
    (s.assessSupply).pedals = s.pedals ∧ (s.assessSupply).share = s.share ∧ (s.assessSupply).conv = s.conv ∧
    (s.assessSupply).link = s.link ∧ (s.assessSupply).control = s.control ∧ (s.assessSupply).counters = s.counters ∧
    (s.assessSupply).pending = s.pending := by
  simp only [State.assessSupply]
  (repeat' split) <;> simp

@[simp] theorem State.recordSupply_keeps (s before : State) :
    (s.recordSupply before).now = s.now ∧ (s.recordSupply before).number = s.number ∧
    (s.recordSupply before).mode = s.mode ∧ (s.recordSupply before).voicing = s.voicing ∧
    (s.recordSupply before).scan = s.scan ∧ (s.recordSupply before).tracks = s.tracks ∧
    (s.recordSupply before).shade = s.shade ∧ (s.recordSupply before).notes = s.notes ∧
    (s.recordSupply before).keys = s.keys ∧ (s.recordSupply before).pedals = s.pedals ∧
    (s.recordSupply before).share = s.share ∧ (s.recordSupply before).conv = s.conv ∧
    (s.recordSupply before).link = s.link ∧ (s.recordSupply before).control = s.control ∧
    (s.recordSupply before).counters = s.counters ∧ (s.recordSupply before).pending = s.pending := by
  simp only [State.recordSupply]
  (repeat' split) <;> simp

@[simp] theorem State.beginHoldOff_keeps (s : State) :
    (s.beginHoldOff).now = s.now ∧ (s.beginHoldOff).number = s.number ∧ (s.beginHoldOff).mode = s.mode ∧
    (s.beginHoldOff).voicing = s.voicing ∧ (s.beginHoldOff).scan = s.scan ∧ (s.beginHoldOff).tracks = s.tracks ∧
    (s.beginHoldOff).shade = s.shade ∧ (s.beginHoldOff).prot = s.prot ∧ (s.beginHoldOff).conv = s.conv ∧
    (s.beginHoldOff).control = s.control ∧ (s.beginHoldOff).counters = s.counters ∧
    (s.beginHoldOff).pending = s.pending := by
  simp only [State.beginHoldOff]
  (repeat' split) <;> simp

@[simp] theorem State.restorePedals_keeps (s : State) :
    (s.restorePedals).now = s.now ∧ (s.restorePedals).number = s.number ∧ (s.restorePedals).mode = s.mode ∧
    (s.restorePedals).voicing = s.voicing ∧ (s.restorePedals).scan = s.scan ∧ (s.restorePedals).tracks = s.tracks ∧
    (s.restorePedals).shade = s.shade ∧ (s.restorePedals).notes = s.notes ∧ (s.restorePedals).keys = s.keys ∧
    (s.restorePedals).prot = s.prot ∧ (s.restorePedals).conv = s.conv ∧ (s.restorePedals).control = s.control ∧
    (s.restorePedals).counters = s.counters ∧ (s.restorePedals).pending = s.pending := by
  simp only [State.restorePedals]
  (repeat' split) <;> simp

@[simp] theorem State.moveHoldOff_keeps (s before : State) :
    (s.moveHoldOff before).now = s.now ∧ (s.moveHoldOff before).number = s.number ∧
    (s.moveHoldOff before).mode = s.mode ∧ (s.moveHoldOff before).voicing = s.voicing ∧
    (s.moveHoldOff before).scan = s.scan ∧ (s.moveHoldOff before).tracks = s.tracks ∧
    (s.moveHoldOff before).shade = s.shade ∧ (s.moveHoldOff before).prot = s.prot ∧
    (s.moveHoldOff before).conv = s.conv ∧ (s.moveHoldOff before).control = s.control ∧
    (s.moveHoldOff before).counters = s.counters ∧ (s.moveHoldOff before).pending = s.pending := by
  simp only [State.moveHoldOff]
  (repeat' split) <;> simp

@[simp] theorem State.recompensate_keeps (s : State) :
    (s.recompensate).now = s.now ∧ (s.recompensate).number = s.number ∧ (s.recompensate).mode = s.mode ∧
    (s.recompensate).voicing = s.voicing ∧ (s.recompensate).scan = s.scan ∧ (s.recompensate).tracks = s.tracks ∧
    (s.recompensate).shade = s.shade ∧ (s.recompensate).notes = s.notes ∧ (s.recompensate).share = s.share ∧
    (s.recompensate).prot = s.prot ∧ (s.recompensate).conv = s.conv ∧ (s.recompensate).link = s.link ∧
    (s.recompensate).control = s.control ∧ (s.recompensate).counters = s.counters ∧
    (s.recompensate).pending = s.pending := by
  simp only [State.recompensate]
  (repeat' split) <;> simp

@[simp] theorem State.onSupplySample_keeps (s : State) (value : Nat) :
    (s.onSupplySample value).now = s.now ∧ (s.onSupplySample value).number = s.number ∧
    (s.onSupplySample value).voicing = s.voicing ∧ (s.onSupplySample value).scan = s.scan ∧
    (s.onSupplySample value).tracks = s.tracks ∧ (s.onSupplySample value).shade = s.shade ∧
    (s.onSupplySample value).control = s.control ∧ (s.onSupplySample value).counters = s.counters ∧
    (s.onSupplySample value).pending = s.pending := by
  simp only [State.onSupplySample]
  (repeat' split) <;> simp

@[simp] theorem State.setThermal_keeps (s : State) (cl : Cluster) (x : Thermal) :
    (s.setThermal cl x).now = s.now ∧ (s.setThermal cl x).number = s.number ∧ (s.setThermal cl x).mode = s.mode ∧
    (s.setThermal cl x).voicing = s.voicing ∧ (s.setThermal cl x).scan = s.scan ∧
    (s.setThermal cl x).tracks = s.tracks ∧ (s.setThermal cl x).shade = s.shade ∧
    (s.setThermal cl x).notes = s.notes ∧ (s.setThermal cl x).keys = s.keys ∧ (s.setThermal cl x).pedals = s.pedals ∧
    (s.setThermal cl x).share = s.share ∧ (s.setThermal cl x).conv = s.conv ∧ (s.setThermal cl x).link = s.link ∧
    (s.setThermal cl x).control = s.control ∧ (s.setThermal cl x).counters = s.counters ∧
    (s.setThermal cl x).pending = s.pending := by
  simp only [State.setThermal]
  (repeat' split) <;> simp

@[simp] theorem State.handWarmth_keeps (s : State) (cl : Cluster) (wasWarm : Bool) :
    (s.handWarmth cl wasWarm).now = s.now ∧ (s.handWarmth cl wasWarm).number = s.number ∧
    (s.handWarmth cl wasWarm).mode = s.mode ∧ (s.handWarmth cl wasWarm).voicing = s.voicing ∧
    (s.handWarmth cl wasWarm).scan = s.scan ∧ (s.handWarmth cl wasWarm).tracks = s.tracks ∧
    (s.handWarmth cl wasWarm).shade = s.shade ∧ (s.handWarmth cl wasWarm).notes = s.notes ∧
    (s.handWarmth cl wasWarm).pedals = s.pedals ∧ (s.handWarmth cl wasWarm).prot = s.prot ∧
    (s.handWarmth cl wasWarm).conv = s.conv ∧ (s.handWarmth cl wasWarm).control = s.control ∧
    (s.handWarmth cl wasWarm).counters = s.counters ∧ (s.handWarmth cl wasWarm).pending = s.pending := by
  simp only [State.handWarmth]
  (repeat' split) <;> simp

@[simp] theorem State.shutCluster_keeps (s : State) (cl : Cluster) :
    (s.shutCluster cl).now = s.now ∧ (s.shutCluster cl).number = s.number ∧ (s.shutCluster cl).mode = s.mode ∧
    (s.shutCluster cl).voicing = s.voicing ∧ (s.shutCluster cl).scan = s.scan ∧
    (s.shutCluster cl).tracks = s.tracks ∧ (s.shutCluster cl).shade = s.shade ∧ (s.shutCluster cl).prot = s.prot ∧
    (s.shutCluster cl).conv = s.conv ∧ (s.shutCluster cl).pending = s.pending := by
  simp only [State.shutCluster]
  (repeat' split) <;> simp

@[simp] theorem State.thermalShutdown_keeps (s : State) (cl : Cluster) :
    (s.thermalShutdown cl).now = s.now ∧ (s.thermalShutdown cl).number = s.number ∧
    (s.thermalShutdown cl).voicing = s.voicing ∧ (s.thermalShutdown cl).scan = s.scan ∧
    (s.thermalShutdown cl).tracks = s.tracks ∧ (s.thermalShutdown cl).shade = s.shade ∧
    (s.thermalShutdown cl).prot = s.prot ∧ (s.thermalShutdown cl).conv = s.conv ∧
    (s.thermalShutdown cl).pending = s.pending := by
  simp only [State.thermalShutdown]
  (repeat' split) <;> simp

@[simp] theorem State.onTemperature_keeps (s : State) (cl : Cluster) (temp : Int) :
    (s.onTemperature cl temp).now = s.now ∧ (s.onTemperature cl temp).number = s.number ∧
    (s.onTemperature cl temp).voicing = s.voicing ∧ (s.onTemperature cl temp).scan = s.scan ∧
    (s.onTemperature cl temp).tracks = s.tracks ∧ (s.onTemperature cl temp).shade = s.shade ∧
    (s.onTemperature cl temp).pending = s.pending := by
  simp only [State.onTemperature]
  (repeat' split) <;> simp

@[simp] theorem State.onTemperatureSample_keeps (s : State) (temp : Int) :
    (s.onTemperatureSample temp).now = s.now ∧ (s.onTemperatureSample temp).number = s.number ∧
    (s.onTemperatureSample temp).voicing = s.voicing ∧ (s.onTemperatureSample temp).scan = s.scan ∧
    (s.onTemperatureSample temp).tracks = s.tracks ∧ (s.onTemperatureSample temp).shade = s.shade ∧
    (s.onTemperatureSample temp).pending = s.pending := by
  simp only [State.onTemperatureSample]
  (repeat' split) <;> simp

end Sys2Proof.Machine
end

