-- ==== Sys2Proof/Laws/Probes.lean ====
section
/-! SUPPORT. What each operation of Machine/Probes.lean leaves as it was: every part of the state but those its rules change. -/

namespace Sys2Proof.Machine

@[simp] theorem State.carryMarks_keeps (s : State) :
    (s.carryMarks).now = s.now ∧ (s.carryMarks).number = s.number ∧ (s.carryMarks).mode = s.mode ∧
    (s.carryMarks).voicing = s.voicing ∧ (s.carryMarks).scan = s.scan ∧ (s.carryMarks).tracks = s.tracks ∧
    (s.carryMarks).shade = s.shade ∧ (s.carryMarks).notes = s.notes ∧ (s.carryMarks).keys = s.keys ∧
    (s.carryMarks).pedals = s.pedals ∧ (s.carryMarks).share = s.share ∧ (s.carryMarks).prot = s.prot ∧
    (s.carryMarks).conv = s.conv ∧ (s.carryMarks).link = s.link ∧ (s.carryMarks).counters = s.counters ∧
    (s.carryMarks).pending = s.pending := by
  simp only [State.carryMarks]
  (repeat' split) <;> simp

@[simp] theorem State.purgeFor_keeps (s : State) (x : HeldProbe) :
    (s.purgeFor x).now = s.now ∧ (s.purgeFor x).number = s.number ∧ (s.purgeFor x).mode = s.mode ∧
    (s.purgeFor x).voicing = s.voicing ∧ (s.purgeFor x).scan = s.scan ∧ (s.purgeFor x).tracks = s.tracks ∧
    (s.purgeFor x).shade = s.shade ∧ (s.purgeFor x).notes = s.notes ∧ (s.purgeFor x).keys = s.keys ∧
    (s.purgeFor x).pedals = s.pedals ∧ (s.purgeFor x).prot = s.prot ∧ (s.purgeFor x).conv = s.conv ∧
    (s.purgeFor x).link = s.link ∧ (s.purgeFor x).control = s.control ∧ (s.purgeFor x).counters = s.counters ∧
    (s.purgeFor x).pending = s.pending := by
  simp only [State.purgeFor]
  (repeat' split) <;> simp

@[simp] theorem State.answerProbe_keeps (s : State) (x : HeldProbe) :
    (s.answerProbe x).now = s.now ∧ (s.answerProbe x).number = s.number ∧ (s.answerProbe x).mode = s.mode ∧
    (s.answerProbe x).voicing = s.voicing ∧ (s.answerProbe x).scan = s.scan ∧ (s.answerProbe x).tracks = s.tracks ∧
    (s.answerProbe x).shade = s.shade ∧ (s.answerProbe x).notes = s.notes ∧ (s.answerProbe x).keys = s.keys ∧
    (s.answerProbe x).pedals = s.pedals ∧ (s.answerProbe x).prot = s.prot ∧ (s.answerProbe x).conv = s.conv ∧
    (s.answerProbe x).counters = s.counters ∧ (s.answerProbe x).pending = s.pending := by
  simp only [State.answerProbe]
  (repeat' split) <;> simp

@[simp] theorem State.takeProbe_keeps (s : State) (e : Entry) (target : StationNo) (item argument : Byte) :
    (s.takeProbe e target item argument).now = s.now ∧ (s.takeProbe e target item argument).number = s.number ∧
    (s.takeProbe e target item argument).mode = s.mode ∧ (s.takeProbe e target item argument).voicing = s.voicing ∧
    (s.takeProbe e target item argument).scan = s.scan ∧ (s.takeProbe e target item argument).tracks = s.tracks ∧
    (s.takeProbe e target item argument).shade = s.shade ∧ (s.takeProbe e target item argument).notes = s.notes ∧
    (s.takeProbe e target item argument).keys = s.keys ∧ (s.takeProbe e target item argument).pedals = s.pedals ∧
    (s.takeProbe e target item argument).prot = s.prot ∧ (s.takeProbe e target item argument).counters = s.counters ∧
    (s.takeProbe e target item argument).pending = s.pending := by
  simp only [State.takeProbe]
  (repeat' split) <;> simp

@[simp] theorem State.onProbeConversion_keeps (s : State) (value : Int) :
    (s.onProbeConversion value).now = s.now ∧ (s.onProbeConversion value).number = s.number ∧
    (s.onProbeConversion value).mode = s.mode ∧ (s.onProbeConversion value).voicing = s.voicing ∧
    (s.onProbeConversion value).scan = s.scan ∧ (s.onProbeConversion value).tracks = s.tracks ∧
    (s.onProbeConversion value).shade = s.shade ∧ (s.onProbeConversion value).notes = s.notes ∧
    (s.onProbeConversion value).keys = s.keys ∧ (s.onProbeConversion value).pedals = s.pedals ∧
    (s.onProbeConversion value).prot = s.prot ∧ (s.onProbeConversion value).counters = s.counters ∧
    (s.onProbeConversion value).pending = s.pending := by
  simp only [State.onProbeConversion]
  (repeat' split) <;> simp

end Sys2Proof.Machine
end

