-- ==== Sys2Proof/Laws/StationControl.lean ====
section
/-! SUPPORT. What each operation of Machine/StationControl.lean leaves as it was: every part of the state but those its rules change. -/

namespace Sys2Proof.Machine

/-- What a restart keeps: the timebase runs on, the straps name the station, and the commands that wait stay. -/
@[simp] theorem State.restart_keeps (s : State) (straps : StationNo) :
    (s.restart straps).now = s.now ∧ (s.restart straps).number = straps ∧ (s.restart straps).pending = s.pending ∧
    (s.restart straps).mode = .loading ∧ (s.restart straps).voicing = none ∧
    (s.restart straps).scan = State.reset.scan ∧ (s.restart straps).tracks = State.reset.tracks ∧
    (s.restart straps).shade = State.reset.shade ∧ (s.restart straps).notes = [] ∧
    (s.restart straps).keys = State.reset.keys ∧ (s.restart straps).pedals = State.reset.pedals ∧
    (s.restart straps).share = State.reset.share ∧ (s.restart straps).prot = State.reset.prot ∧
    (s.restart straps).conv = State.reset.conv ∧ (s.restart straps).link = State.reset.link ∧
    (s.restart straps).control = State.reset.control ∧ (s.restart straps).counters = State.reset.counters :=
  ⟨rfl, rfl, rfl, rfl, rfl, rfl, rfl, rfl, rfl, rfl, rfl, rfl, rfl, rfl, rfl, rfl, rfl⟩

@[simp] theorem State.enterStandby_keeps (s : State) (v : Voicing) :
    (s.enterStandby v).now = s.now ∧ (s.enterStandby v).number = s.number ∧ (s.enterStandby v).scan = s.scan ∧
    (s.enterStandby v).tracks = s.tracks ∧ (s.enterStandby v).shade = s.shade ∧ (s.enterStandby v).notes = s.notes ∧
    (s.enterStandby v).keys = s.keys ∧ (s.enterStandby v).pedals = s.pedals ∧ (s.enterStandby v).prot = s.prot ∧
    (s.enterStandby v).control = s.control ∧ (s.enterStandby v).counters = s.counters ∧
    (s.enterStandby v).pending = s.pending := by
  simp only [State.enterStandby]
  (repeat' split) <;> simp

@[simp] theorem State.onStoreRead_keeps (s : State) (first second : List Byte) :
    (s.onStoreRead first second).now = s.now ∧ (s.onStoreRead first second).number = s.number ∧
    (s.onStoreRead first second).scan = s.scan ∧ (s.onStoreRead first second).tracks = s.tracks ∧
    (s.onStoreRead first second).shade = s.shade ∧ (s.onStoreRead first second).notes = s.notes ∧
    (s.onStoreRead first second).keys = s.keys ∧ (s.onStoreRead first second).pedals = s.pedals ∧
    (s.onStoreRead first second).prot = s.prot ∧ (s.onStoreRead first second).control = s.control ∧
    (s.onStoreRead first second).counters = s.counters ∧ (s.onStoreRead first second).pending = s.pending := by
  simp only [State.onStoreRead]
  (repeat' split) <;> simp

@[simp] theorem State.orphanOpenTracks_keeps (s : State) :
    (s.orphanOpenTracks).now = s.now ∧ (s.orphanOpenTracks).number = s.number ∧ (s.orphanOpenTracks).mode = s.mode ∧
    (s.orphanOpenTracks).voicing = s.voicing ∧ (s.orphanOpenTracks).scan = s.scan ∧
    (s.orphanOpenTracks).shade = s.shade ∧ (s.orphanOpenTracks).notes = s.notes ∧
    (s.orphanOpenTracks).keys = s.keys ∧ (s.orphanOpenTracks).pedals = s.pedals ∧
    (s.orphanOpenTracks).share = s.share ∧ (s.orphanOpenTracks).prot = s.prot ∧ (s.orphanOpenTracks).conv = s.conv ∧
    (s.orphanOpenTracks).link = s.link ∧ (s.orphanOpenTracks).control = s.control ∧
    (s.orphanOpenTracks).counters = s.counters ∧ (s.orphanOpenTracks).pending = s.pending := by
  simp only [State.orphanOpenTracks]
  (repeat' split) <;> simp

@[simp] theorem State.enterPlay_keeps (s : State) :
    (s.enterPlay).now = s.now ∧ (s.enterPlay).number = s.number ∧ (s.enterPlay).voicing = s.voicing ∧
    (s.enterPlay).scan = s.scan ∧ (s.enterPlay).notes = s.notes ∧ (s.enterPlay).keys = s.keys ∧
    (s.enterPlay).prot = s.prot ∧ (s.enterPlay).conv = s.conv ∧ (s.enterPlay).control = s.control ∧
    (s.enterPlay).pending = s.pending := by
  simp only [State.enterPlay]
  (repeat' split) <;> simp

@[simp] theorem State.onPlay_keeps (s : State) :
    (s.onPlay).now = s.now ∧ (s.onPlay).number = s.number ∧ (s.onPlay).voicing = s.voicing ∧
    (s.onPlay).scan = s.scan ∧ (s.onPlay).notes = s.notes ∧ (s.onPlay).keys = s.keys ∧ (s.onPlay).prot = s.prot ∧
    (s.onPlay).conv = s.conv ∧ (s.onPlay).control = s.control ∧ (s.onPlay).pending = s.pending := by
  simp only [State.onPlay]
  (repeat' split) <;> simp

@[simp] theorem State.onStop_keeps (s : State) :
    (s.onStop).now = s.now ∧ (s.onStop).number = s.number ∧ (s.onStop).voicing = s.voicing ∧
    (s.onStop).scan = s.scan ∧ (s.onStop).tracks = s.tracks ∧ (s.onStop).prot = s.prot ∧ (s.onStop).conv = s.conv ∧
    (s.onStop).pending = s.pending := by
  simp only [State.onStop]
  (repeat' split) <;> simp

@[simp] theorem State.clearKey_keeps (s : State) (k : Driver) :
    (s.clearKey k).now = s.now ∧ (s.clearKey k).number = s.number ∧ (s.clearKey k).mode = s.mode ∧
    (s.clearKey k).voicing = s.voicing ∧ (s.clearKey k).scan = s.scan ∧ (s.clearKey k).tracks = s.tracks ∧
    (s.clearKey k).shade = s.shade ∧ (s.clearKey k).notes = s.notes ∧ (s.clearKey k).pedals = s.pedals ∧
    (s.clearKey k).share = s.share ∧ (s.clearKey k).prot = s.prot ∧ (s.clearKey k).conv = s.conv ∧
    (s.clearKey k).link = s.link ∧ (s.clearKey k).control = s.control ∧ (s.clearKey k).counters = s.counters ∧
    (s.clearKey k).pending = s.pending := by
  simp only [State.clearKey]
  (repeat' split) <;> simp

@[simp] theorem forKeys_clearKey_keeps (s : State) (ks : List Driver) :
    (s.forKeys ks State.clearKey).now = s.now ∧ (s.forKeys ks State.clearKey).number = s.number ∧
    (s.forKeys ks State.clearKey).mode = s.mode ∧ (s.forKeys ks State.clearKey).voicing = s.voicing ∧
    (s.forKeys ks State.clearKey).scan = s.scan ∧ (s.forKeys ks State.clearKey).tracks = s.tracks ∧
    (s.forKeys ks State.clearKey).shade = s.shade ∧ (s.forKeys ks State.clearKey).notes = s.notes ∧
    (s.forKeys ks State.clearKey).pedals = s.pedals ∧ (s.forKeys ks State.clearKey).share = s.share ∧
    (s.forKeys ks State.clearKey).prot = s.prot ∧ (s.forKeys ks State.clearKey).conv = s.conv ∧
    (s.forKeys ks State.clearKey).link = s.link ∧ (s.forKeys ks State.clearKey).control = s.control ∧
    (s.forKeys ks State.clearKey).counters = s.counters ∧ (s.forKeys ks State.clearKey).pending = s.pending :=
  ⟨foldl_keeps State.now _ (by simp) _ _, foldl_keeps State.number _ (by simp) _ _,
   foldl_keeps State.mode _ (by simp) _ _, foldl_keeps State.voicing _ (by simp) _ _,
   foldl_keeps State.scan _ (by simp) _ _, foldl_keeps State.tracks _ (by simp) _ _,
   foldl_keeps State.shade _ (by simp) _ _, foldl_keeps State.notes _ (by simp) _ _,
   foldl_keeps State.pedals _ (by simp) _ _, foldl_keeps State.share _ (by simp) _ _,
   foldl_keeps State.prot _ (by simp) _ _, foldl_keeps State.conv _ (by simp) _ _,
   foldl_keeps State.link _ (by simp) _ _, foldl_keeps State.control _ (by simp) _ _,
   foldl_keeps State.counters _ (by simp) _ _, foldl_keeps State.pending _ (by simp) _ _⟩

@[simp] theorem State.clearPedal_keeps (s : State) (p : Pedal) :
    (s.clearPedal p).now = s.now ∧ (s.clearPedal p).number = s.number ∧ (s.clearPedal p).mode = s.mode ∧
    (s.clearPedal p).voicing = s.voicing ∧ (s.clearPedal p).scan = s.scan ∧ (s.clearPedal p).tracks = s.tracks ∧
    (s.clearPedal p).shade = s.shade ∧ (s.clearPedal p).notes = s.notes ∧ (s.clearPedal p).keys = s.keys ∧
    (s.clearPedal p).prot = s.prot ∧ (s.clearPedal p).conv = s.conv ∧ (s.clearPedal p).control = s.control ∧
    (s.clearPedal p).counters = s.counters ∧ (s.clearPedal p).pending = s.pending := by
  simp only [State.clearPedal]
  (repeat' split) <;> simp

@[simp] theorem State.clearCluster_keeps (s : State) (cl : Cluster) :
    (s.clearCluster cl).now = s.now ∧ (s.clearCluster cl).number = s.number ∧ (s.clearCluster cl).mode = s.mode ∧
    (s.clearCluster cl).voicing = s.voicing ∧ (s.clearCluster cl).scan = s.scan ∧
    (s.clearCluster cl).tracks = s.tracks ∧ (s.clearCluster cl).shade = s.shade ∧
    (s.clearCluster cl).notes = s.notes ∧ (s.clearCluster cl).conv = s.conv ∧
    (s.clearCluster cl).control = s.control ∧ (s.clearCluster cl).counters = s.counters ∧
    (s.clearCluster cl).pending = s.pending := by
  simp only [State.clearCluster]
  (repeat' split) <;> simp

@[simp] theorem State.onClear_keeps (s : State) :
    (s.onClear).now = s.now ∧ (s.onClear).number = s.number ∧ (s.onClear).voicing = s.voicing ∧
    (s.onClear).scan = s.scan ∧ (s.onClear).tracks = s.tracks ∧ (s.onClear).shade = s.shade ∧
    (s.onClear).notes = s.notes ∧ (s.onClear).conv = s.conv ∧ (s.onClear).control = s.control ∧
    (s.onClear).counters = s.counters ∧ (s.onClear).pending = s.pending := by
  simp only [State.onClear, Cluster.all, List.foldl]
  split <;> simp

@[simp] theorem State.onTrim_keeps (s : State) (argument : Byte) :
    (s.onTrim argument).now = s.now ∧ (s.onTrim argument).number = s.number ∧ (s.onTrim argument).mode = s.mode ∧
    (s.onTrim argument).voicing = s.voicing ∧ (s.onTrim argument).scan = s.scan ∧
    (s.onTrim argument).tracks = s.tracks ∧ (s.onTrim argument).notes = s.notes ∧ (s.onTrim argument).keys = s.keys ∧
    (s.onTrim argument).pedals = s.pedals ∧ (s.onTrim argument).share = s.share ∧ (s.onTrim argument).prot = s.prot ∧
    (s.onTrim argument).conv = s.conv ∧ (s.onTrim argument).link = s.link ∧ (s.onTrim argument).control = s.control ∧
    (s.onTrim argument).counters = s.counters ∧ (s.onTrim argument).pending = s.pending := by
  simp only [State.onTrim]
  (repeat' split) <;> simp

@[simp] theorem State.onHalt_keeps (s : State) :
    (s.onHalt).now = s.now ∧ (s.onHalt).number = s.number ∧ (s.onHalt).voicing = s.voicing ∧
    (s.onHalt).scan = s.scan ∧ (s.onHalt).tracks = s.tracks ∧ (s.onHalt).shade = s.shade ∧ (s.onHalt).conv = s.conv ∧
    (s.onHalt).control = s.control ∧ (s.onHalt).counters = s.counters ∧ (s.onHalt).pending = s.pending := by
  simp only [State.onHalt]
  (repeat' split) <;> simp

end Sys2Proof.Machine
end

