-- ==== Sys2Proof/Laws/LinkController.lean ====
section
/-! SUPPORT. What each operation of Machine/LinkController.lean leaves as it was: every part of the state but those its rules change, and
what a sender finds in the bits of its own frame. -/

namespace Sys2Proof.Machine

/-- The bits read back are those sent when every bit sent is read at its place, bits not given being recessive. -/
theorem readsBack_iff (sent bits : List Bool) :
    readsBack sent bits = true ↔ ∀ (i : Nat) (b : Bool), sent[i]? = some b → bits.getD i true = b := by
  simp only [readsBack, decide_eq_true_eq, bitsAt, bitAt, Nat.zero_add]
  constructor
  · intro h i b hb
    obtain ⟨hi, rfl⟩ := List.getElem?_eq_some_iff.mp hb
    have place := congrArg (fun x => x[i]?) h
    simpa [hi] using place
  · intro h
    refine List.ext_getElem (by simp) fun i hi hj => ?_
    simpa using h i sent[i] (List.getElem?_eq_getElem hj)

/-- An own frame is clean when every bit of it after the first eight is read as sent, and the objection slot and delimiter
are recessive. -/
theorem ownObjected_eq_false_iff (sender : StationNo) (f : Payload) (bits : List Bool) (ending : ObjectionBits) :
    ownObjected sender f bits ending = false ↔
      (∀ (i : Nat) (b : Bool), (encodeFrame sender f)[8 + i]? = some b → bits.getD i true = b) ∧
        ending.slot = true ∧ ending.delimiter = true := by
  have read := readsBack_iff (drivenBits sender f) bits
  simp only [drivenBits, List.getElem?_drop] at read
  rw [← read]
  obtain ⟨slot, delimiter⟩ := ending
  cases slot <;> cases delimiter <;> simp [ownObjected, drivenBits]

@[simp] theorem State.takeNext_keeps (s : State) :
    (s.takeNext).now = s.now ∧ (s.takeNext).number = s.number ∧ (s.takeNext).mode = s.mode ∧
    (s.takeNext).voicing = s.voicing ∧ (s.takeNext).scan = s.scan ∧ (s.takeNext).tracks = s.tracks ∧
    (s.takeNext).shade = s.shade ∧ (s.takeNext).notes = s.notes ∧ (s.takeNext).keys = s.keys ∧
    (s.takeNext).pedals = s.pedals ∧ (s.takeNext).share = s.share ∧ (s.takeNext).prot = s.prot ∧
    (s.takeNext).conv = s.conv ∧ (s.takeNext).control = s.control ∧ (s.takeNext).counters = s.counters ∧
    (s.takeNext).pending = s.pending := by
  simp only [State.takeNext]
  (repeat' split) <;> simp

@[simp] theorem State.enterIntake_keeps (s : State) (e : Entry) (places : Nat) :
    (s.enterIntake e places).now = s.now ∧ (s.enterIntake e places).number = s.number ∧
    (s.enterIntake e places).mode = s.mode ∧ (s.enterIntake e places).voicing = s.voicing ∧
    (s.enterIntake e places).scan = s.scan ∧ (s.enterIntake e places).tracks = s.tracks ∧
    (s.enterIntake e places).shade = s.shade ∧ (s.enterIntake e places).notes = s.notes ∧
    (s.enterIntake e places).keys = s.keys ∧ (s.enterIntake e places).pedals = s.pedals ∧
    (s.enterIntake e places).share = s.share ∧ (s.enterIntake e places).prot = s.prot ∧
    (s.enterIntake e places).conv = s.conv ∧ (s.enterIntake e places).pending = s.pending := by
  simp only [State.enterIntake]
  (repeat' split) <;> simp

@[simp] theorem State.onHandlingEnd_keeps (s : State) :
    (s.onHandlingEnd).now = s.now ∧ (s.onHandlingEnd).number = s.number ∧ (s.onHandlingEnd).mode = s.mode ∧
    (s.onHandlingEnd).voicing = s.voicing ∧ (s.onHandlingEnd).scan = s.scan ∧ (s.onHandlingEnd).tracks = s.tracks ∧
    (s.onHandlingEnd).shade = s.shade ∧ (s.onHandlingEnd).notes = s.notes ∧ (s.onHandlingEnd).keys = s.keys ∧
    (s.onHandlingEnd).pedals = s.pedals ∧ (s.onHandlingEnd).share = s.share ∧ (s.onHandlingEnd).prot = s.prot ∧
    (s.onHandlingEnd).conv = s.conv ∧ (s.onHandlingEnd).control = s.control ∧
    (s.onHandlingEnd).counters = s.counters ∧ (s.onHandlingEnd).pending = s.pending := by
  simp only [State.onHandlingEnd]
  (repeat' split) <;> simp

@[simp] theorem State.beginAttempt_keeps (s : State) (i : Slot) (frame : Payload) :
    (s.beginAttempt i frame).now = s.now ∧ (s.beginAttempt i frame).number = s.number ∧
    (s.beginAttempt i frame).mode = s.mode ∧ (s.beginAttempt i frame).voicing = s.voicing ∧
    (s.beginAttempt i frame).scan = s.scan ∧ (s.beginAttempt i frame).tracks = s.tracks ∧
    (s.beginAttempt i frame).shade = s.shade ∧ (s.beginAttempt i frame).notes = s.notes ∧
    (s.beginAttempt i frame).keys = s.keys ∧ (s.beginAttempt i frame).pedals = s.pedals ∧
    (s.beginAttempt i frame).share = s.share ∧ (s.beginAttempt i frame).prot = s.prot ∧
    (s.beginAttempt i frame).conv = s.conv ∧ (s.beginAttempt i frame).control = s.control ∧
    (s.beginAttempt i frame).counters = s.counters ∧ (s.beginAttempt i frame).pending = s.pending := by
  simp only [State.beginAttempt]
  (repeat' split) <;> simp

@[simp] theorem State.weighClaim_keeps (s : State) (c : ClaimId) :
    (s.weighClaim c).now = s.now ∧ (s.weighClaim c).number = s.number ∧ (s.weighClaim c).mode = s.mode ∧
    (s.weighClaim c).voicing = s.voicing ∧ (s.weighClaim c).scan = s.scan ∧ (s.weighClaim c).tracks = s.tracks ∧
    (s.weighClaim c).shade = s.shade ∧ (s.weighClaim c).notes = s.notes ∧ (s.weighClaim c).keys = s.keys ∧
    (s.weighClaim c).pedals = s.pedals ∧ (s.weighClaim c).prot = s.prot ∧ (s.weighClaim c).conv = s.conv ∧
    (s.weighClaim c).link = s.link ∧ (s.weighClaim c).control = s.control ∧ (s.weighClaim c).pending = s.pending := by
  simp only [State.weighClaim]
  (repeat' split) <;> simp

@[simp] theorem State.beginClaim_keeps (s : State) (c : ClaimId) :
    (s.beginClaim c).now = s.now ∧ (s.beginClaim c).number = s.number ∧ (s.beginClaim c).voicing = s.voicing ∧
    (s.beginClaim c).scan = s.scan ∧ (s.beginClaim c).tracks = s.tracks ∧ (s.beginClaim c).shade = s.shade ∧
    (s.beginClaim c).notes = s.notes ∧ (s.beginClaim c).keys = s.keys ∧ (s.beginClaim c).pedals = s.pedals ∧
    (s.beginClaim c).prot = s.prot ∧ (s.beginClaim c).conv = s.conv ∧ (s.beginClaim c).control = s.control ∧
    (s.beginClaim c).pending = s.pending := by
  simp only [State.beginClaim]
  (repeat' split) <;> simp

@[simp] theorem State.hearStart_keeps (s : State) :
    (s.hearStart).now = s.now ∧ (s.hearStart).number = s.number ∧ (s.hearStart).mode = s.mode ∧
    (s.hearStart).voicing = s.voicing ∧ (s.hearStart).scan = s.scan ∧ (s.hearStart).tracks = s.tracks ∧
    (s.hearStart).shade = s.shade ∧ (s.hearStart).notes = s.notes ∧ (s.hearStart).keys = s.keys ∧
    (s.hearStart).pedals = s.pedals ∧ (s.hearStart).share = s.share ∧ (s.hearStart).prot = s.prot ∧
    (s.hearStart).conv = s.conv ∧ (s.hearStart).control = s.control ∧ (s.hearStart).counters = s.counters ∧
    (s.hearStart).pending = s.pending := by
  simp only [State.hearStart]
  (repeat' split) <;> simp

@[simp] theorem State.onAttemptStart_keeps (s : State) :
    (s.onAttemptStart).now = s.now ∧ (s.onAttemptStart).number = s.number ∧ (s.onAttemptStart).voicing = s.voicing ∧
    (s.onAttemptStart).scan = s.scan ∧ (s.onAttemptStart).tracks = s.tracks ∧ (s.onAttemptStart).shade = s.shade ∧
    (s.onAttemptStart).notes = s.notes ∧ (s.onAttemptStart).keys = s.keys ∧ (s.onAttemptStart).pedals = s.pedals ∧
    (s.onAttemptStart).prot = s.prot ∧ (s.onAttemptStart).conv = s.conv ∧ (s.onAttemptStart).control = s.control ∧
    (s.onAttemptStart).pending = s.pending := by
  simp only [State.onAttemptStart]
  (repeat' split) <;> simp

@[simp] theorem State.placeHeldLoad_keeps (s : State) :
    (s.placeHeldLoad).now = s.now ∧ (s.placeHeldLoad).number = s.number ∧ (s.placeHeldLoad).mode = s.mode ∧
    (s.placeHeldLoad).voicing = s.voicing ∧ (s.placeHeldLoad).scan = s.scan ∧ (s.placeHeldLoad).tracks = s.tracks ∧
    (s.placeHeldLoad).shade = s.shade ∧ (s.placeHeldLoad).notes = s.notes ∧ (s.placeHeldLoad).keys = s.keys ∧
    (s.placeHeldLoad).pedals = s.pedals ∧ (s.placeHeldLoad).prot = s.prot ∧ (s.placeHeldLoad).conv = s.conv ∧
    (s.placeHeldLoad).control = s.control ∧ (s.placeHeldLoad).counters = s.counters ∧
    (s.placeHeldLoad).pending = s.pending := by
  simp only [State.placeHeldLoad]
  (repeat' split) <;> simp

@[simp] theorem State.overwriteHeldLoad_keeps (s : State) :
    (s.overwriteHeldLoad).now = s.now ∧ (s.overwriteHeldLoad).number = s.number ∧
    (s.overwriteHeldLoad).mode = s.mode ∧ (s.overwriteHeldLoad).voicing = s.voicing ∧
    (s.overwriteHeldLoad).scan = s.scan ∧ (s.overwriteHeldLoad).tracks = s.tracks ∧
    (s.overwriteHeldLoad).shade = s.shade ∧ (s.overwriteHeldLoad).notes = s.notes ∧
    (s.overwriteHeldLoad).keys = s.keys ∧ (s.overwriteHeldLoad).pedals = s.pedals ∧
    (s.overwriteHeldLoad).prot = s.prot ∧ (s.overwriteHeldLoad).conv = s.conv ∧
    (s.overwriteHeldLoad).control = s.control ∧ (s.overwriteHeldLoad).counters = s.counters ∧
    (s.overwriteHeldLoad).pending = s.pending := by
  simp only [State.overwriteHeldLoad]
  (repeat' split) <;> simp

@[simp] theorem State.dropHeldNotice_keeps (s : State) :
    (s.dropHeldNotice).now = s.now ∧ (s.dropHeldNotice).number = s.number ∧ (s.dropHeldNotice).mode = s.mode ∧
    (s.dropHeldNotice).voicing = s.voicing ∧ (s.dropHeldNotice).scan = s.scan ∧
    (s.dropHeldNotice).tracks = s.tracks ∧ (s.dropHeldNotice).shade = s.shade ∧ (s.dropHeldNotice).notes = s.notes ∧
    (s.dropHeldNotice).keys = s.keys ∧ (s.dropHeldNotice).pedals = s.pedals ∧ (s.dropHeldNotice).share = s.share ∧
    (s.dropHeldNotice).prot = s.prot ∧ (s.dropHeldNotice).conv = s.conv ∧ (s.dropHeldNotice).link = s.link ∧
    (s.dropHeldNotice).counters = s.counters ∧ (s.dropHeldNotice).pending = s.pending := by
  simp only [State.dropHeldNotice]
  (repeat' split) <;> simp

@[simp] theorem State.placeHeldNotice_keeps (s : State) :
    (s.placeHeldNotice).now = s.now ∧ (s.placeHeldNotice).number = s.number ∧ (s.placeHeldNotice).mode = s.mode ∧
    (s.placeHeldNotice).voicing = s.voicing ∧ (s.placeHeldNotice).scan = s.scan ∧
    (s.placeHeldNotice).tracks = s.tracks ∧ (s.placeHeldNotice).shade = s.shade ∧
    (s.placeHeldNotice).notes = s.notes ∧ (s.placeHeldNotice).keys = s.keys ∧ (s.placeHeldNotice).pedals = s.pedals ∧
    (s.placeHeldNotice).share = s.share ∧ (s.placeHeldNotice).prot = s.prot ∧ (s.placeHeldNotice).conv = s.conv ∧
    (s.placeHeldNotice).counters = s.counters ∧ (s.placeHeldNotice).pending = s.pending := by
  simp only [State.placeHeldNotice]
  (repeat' split) <;> simp

@[simp] theorem State.overwriteHeldNotice_keeps (s : State) :
    (s.overwriteHeldNotice).now = s.now ∧ (s.overwriteHeldNotice).number = s.number ∧
    (s.overwriteHeldNotice).mode = s.mode ∧ (s.overwriteHeldNotice).voicing = s.voicing ∧
    (s.overwriteHeldNotice).scan = s.scan ∧ (s.overwriteHeldNotice).tracks = s.tracks ∧
    (s.overwriteHeldNotice).shade = s.shade ∧ (s.overwriteHeldNotice).notes = s.notes ∧
    (s.overwriteHeldNotice).keys = s.keys ∧ (s.overwriteHeldNotice).pedals = s.pedals ∧
    (s.overwriteHeldNotice).share = s.share ∧ (s.overwriteHeldNotice).prot = s.prot ∧
    (s.overwriteHeldNotice).conv = s.conv ∧ (s.overwriteHeldNotice).counters = s.counters ∧
    (s.overwriteHeldNotice).pending = s.pending := by
  simp only [State.overwriteHeldNotice]
  (repeat' split) <;> simp

@[simp] theorem State.answerHeldProbe_keeps (s : State) :
    (s.answerHeldProbe).now = s.now ∧ (s.answerHeldProbe).number = s.number ∧ (s.answerHeldProbe).mode = s.mode ∧
    (s.answerHeldProbe).voicing = s.voicing ∧ (s.answerHeldProbe).scan = s.scan ∧
    (s.answerHeldProbe).tracks = s.tracks ∧ (s.answerHeldProbe).shade = s.shade ∧
    (s.answerHeldProbe).notes = s.notes ∧ (s.answerHeldProbe).keys = s.keys ∧ (s.answerHeldProbe).pedals = s.pedals ∧
    (s.answerHeldProbe).prot = s.prot ∧ (s.answerHeldProbe).conv = s.conv ∧
    (s.answerHeldProbe).counters = s.counters ∧ (s.answerHeldProbe).pending = s.pending := by
  simp only [State.answerHeldProbe]
  (repeat' split) <;> simp

@[simp] theorem State.clearMarks_keeps (s : State) :
    (s.clearMarks).now = s.now ∧ (s.clearMarks).number = s.number ∧ (s.clearMarks).mode = s.mode ∧
    (s.clearMarks).voicing = s.voicing ∧ (s.clearMarks).scan = s.scan ∧ (s.clearMarks).tracks = s.tracks ∧
    (s.clearMarks).shade = s.shade ∧ (s.clearMarks).notes = s.notes ∧ (s.clearMarks).keys = s.keys ∧
    (s.clearMarks).pedals = s.pedals ∧ (s.clearMarks).share = s.share ∧ (s.clearMarks).prot = s.prot ∧
    (s.clearMarks).conv = s.conv ∧ (s.clearMarks).link = s.link ∧ (s.clearMarks).counters = s.counters ∧
    (s.clearMarks).pending = s.pending := by
  simp only [State.clearMarks]
  (repeat' split) <;> simp

@[simp] theorem State.departClaim_keeps (s : State) (c : ClaimId) :
    (s.departClaim c).now = s.now ∧ (s.departClaim c).number = s.number ∧ (s.departClaim c).mode = s.mode ∧
    (s.departClaim c).voicing = s.voicing ∧ (s.departClaim c).scan = s.scan ∧ (s.departClaim c).tracks = s.tracks ∧
    (s.departClaim c).shade = s.shade ∧ (s.departClaim c).notes = s.notes ∧ (s.departClaim c).keys = s.keys ∧
    (s.departClaim c).pedals = s.pedals ∧ (s.departClaim c).prot = s.prot ∧ (s.departClaim c).conv = s.conv ∧
    (s.departClaim c).link = s.link ∧ (s.departClaim c).control = s.control ∧
    (s.departClaim c).counters = s.counters ∧ (s.departClaim c).pending = s.pending := by
  simp only [State.departClaim]
  (repeat' split) <;> simp

@[simp] theorem State.tellOwner_keeps (s : State) (i : Slot) (sent : Bool) :
    (s.tellOwner i sent).now = s.now ∧ (s.tellOwner i sent).number = s.number ∧ (s.tellOwner i sent).mode = s.mode ∧
    (s.tellOwner i sent).voicing = s.voicing ∧ (s.tellOwner i sent).scan = s.scan ∧
    (s.tellOwner i sent).tracks = s.tracks ∧ (s.tellOwner i sent).notes = s.notes ∧
    (s.tellOwner i sent).keys = s.keys ∧ (s.tellOwner i sent).prot = s.prot ∧ (s.tellOwner i sent).conv = s.conv ∧
    (s.tellOwner i sent).counters = s.counters ∧ (s.tellOwner i sent).pending = s.pending := by
  simp only [State.tellOwner]
  (repeat' split) <;> simp

@[simp] theorem State.enterEcho_keeps (s : State) (frame : Payload) :
    (s.enterEcho frame).now = s.now ∧ (s.enterEcho frame).number = s.number ∧ (s.enterEcho frame).mode = s.mode ∧
    (s.enterEcho frame).voicing = s.voicing ∧ (s.enterEcho frame).scan = s.scan ∧
    (s.enterEcho frame).tracks = s.tracks ∧ (s.enterEcho frame).shade = s.shade ∧
    (s.enterEcho frame).notes = s.notes ∧ (s.enterEcho frame).keys = s.keys ∧ (s.enterEcho frame).pedals = s.pedals ∧
    (s.enterEcho frame).share = s.share ∧ (s.enterEcho frame).prot = s.prot ∧ (s.enterEcho frame).conv = s.conv ∧
    (s.enterEcho frame).pending = s.pending := by
  simp only [State.enterEcho]
  (repeat' split) <;> simp

@[simp] theorem State.attemptClean_keeps (s : State) (a : Attempt) :
    (s.attemptClean a).now = s.now ∧ (s.attemptClean a).number = s.number ∧ (s.attemptClean a).mode = s.mode ∧
    (s.attemptClean a).voicing = s.voicing ∧ (s.attemptClean a).scan = s.scan ∧
    (s.attemptClean a).tracks = s.tracks ∧ (s.attemptClean a).notes = s.notes ∧ (s.attemptClean a).keys = s.keys ∧
    (s.attemptClean a).prot = s.prot ∧ (s.attemptClean a).conv = s.conv ∧ (s.attemptClean a).pending = s.pending := by
  simp only [State.attemptClean]
  (repeat' split) <;> simp

@[simp] theorem State.afterObjection_keeps (s : State) (i : Slot) :
    (s.afterObjection i).now = s.now ∧ (s.afterObjection i).number = s.number ∧ (s.afterObjection i).mode = s.mode ∧
    (s.afterObjection i).voicing = s.voicing ∧ (s.afterObjection i).scan = s.scan ∧
    (s.afterObjection i).tracks = s.tracks ∧ (s.afterObjection i).prot = s.prot ∧
    (s.afterObjection i).conv = s.conv ∧ (s.afterObjection i).pending = s.pending := by
  simp only [State.afterObjection]
  (repeat' split) <;> simp

@[simp] theorem State.attemptObjected_keeps (s : State) (a : Attempt) :
    (s.attemptObjected a).now = s.now ∧ (s.attemptObjected a).number = s.number ∧
    (s.attemptObjected a).mode = s.mode ∧ (s.attemptObjected a).voicing = s.voicing ∧
    (s.attemptObjected a).scan = s.scan ∧ (s.attemptObjected a).tracks = s.tracks ∧
    (s.attemptObjected a).prot = s.prot ∧ (s.attemptObjected a).conv = s.conv ∧
    (s.attemptObjected a).pending = s.pending := by
  simp only [State.attemptObjected]
  (repeat' split) <;> simp

@[simp] theorem State.onAttemptEnd_keeps (s : State) (objected : Bool) :
    (s.onAttemptEnd objected).now = s.now ∧ (s.onAttemptEnd objected).number = s.number ∧
    (s.onAttemptEnd objected).voicing = s.voicing ∧ (s.onAttemptEnd objected).scan = s.scan ∧
    (s.onAttemptEnd objected).tracks = s.tracks ∧ (s.onAttemptEnd objected).prot = s.prot ∧
    (s.onAttemptEnd objected).conv = s.conv ∧ (s.onAttemptEnd objected).pending = s.pending := by
  simp only [State.onAttemptEnd]
  (repeat' split) <;> simp

@[simp] theorem State.putHeld_keeps (s : State) (i : Slot) :
    (s.putHeld i).now = s.now ∧ (s.putHeld i).number = s.number ∧ (s.putHeld i).mode = s.mode ∧
    (s.putHeld i).voicing = s.voicing ∧ (s.putHeld i).scan = s.scan ∧ (s.putHeld i).tracks = s.tracks ∧
    (s.putHeld i).shade = s.shade ∧ (s.putHeld i).notes = s.notes ∧ (s.putHeld i).keys = s.keys ∧
    (s.putHeld i).pedals = s.pedals ∧ (s.putHeld i).prot = s.prot ∧ (s.putHeld i).conv = s.conv ∧
    (s.putHeld i).counters = s.counters ∧ (s.putHeld i).pending = s.pending := by
  simp only [State.putHeld]
  (repeat' split) <;> simp

@[simp] theorem State.requeue_keeps (s : State) (i : Slot) :
    (s.requeue i).now = s.now ∧ (s.requeue i).number = s.number ∧ (s.requeue i).mode = s.mode ∧
    (s.requeue i).voicing = s.voicing ∧ (s.requeue i).scan = s.scan ∧ (s.requeue i).tracks = s.tracks ∧
    (s.requeue i).pedals = s.pedals ∧ (s.requeue i).prot = s.prot ∧ (s.requeue i).conv = s.conv ∧
    (s.requeue i).pending = s.pending := by
  simp only [State.requeue]
  (repeat' split) <;> simp

@[simp] theorem State.onArbitrationLost_keeps (s : State) :
    (s.onArbitrationLost).now = s.now ∧ (s.onArbitrationLost).number = s.number ∧
    (s.onArbitrationLost).voicing = s.voicing ∧ (s.onArbitrationLost).scan = s.scan ∧
    (s.onArbitrationLost).tracks = s.tracks ∧ (s.onArbitrationLost).pedals = s.pedals ∧
    (s.onArbitrationLost).prot = s.prot ∧ (s.onArbitrationLost).conv = s.conv ∧
    (s.onArbitrationLost).pending = s.pending := by
  simp only [State.onArbitrationLost]
  (repeat' split) <;> simp

@[simp] theorem State.breakFrame_keeps (s : State) :
    (s.breakFrame).now = s.now ∧ (s.breakFrame).number = s.number ∧ (s.breakFrame).mode = s.mode ∧
    (s.breakFrame).voicing = s.voicing ∧ (s.breakFrame).scan = s.scan ∧ (s.breakFrame).tracks = s.tracks ∧
    (s.breakFrame).shade = s.shade ∧ (s.breakFrame).notes = s.notes ∧ (s.breakFrame).keys = s.keys ∧
    (s.breakFrame).pedals = s.pedals ∧ (s.breakFrame).share = s.share ∧ (s.breakFrame).prot = s.prot ∧
    (s.breakFrame).conv = s.conv ∧ (s.breakFrame).control = s.control ∧ (s.breakFrame).counters = s.counters ∧
    (s.breakFrame).pending = s.pending := by
  simp only [State.breakFrame]
  (repeat' split) <;> simp

@[simp] theorem State.deliver_keeps (s : State) (straps sender : StationNo) (f : Payload) :
    (s.deliver straps sender f).now = s.now ∧ (s.deliver straps sender f).pending = s.pending := by
  simp only [State.deliver]
  (repeat' split) <;> simp

@[simp] theorem State.onDelivery_keeps (s : State) (straps : StationNo) (bits : List Bool) (objection : Bool) :
    (s.onDelivery straps bits objection).now = s.now ∧ (s.onDelivery straps bits objection).pending = s.pending := by
  simp only [State.onDelivery]
  (repeat' split) <;> simp

@[simp] theorem State.onLineIdle_keeps (s : State) :
    (s.onLineIdle).now = s.now ∧ (s.onLineIdle).number = s.number ∧ (s.onLineIdle).mode = s.mode ∧
    (s.onLineIdle).voicing = s.voicing ∧ (s.onLineIdle).scan = s.scan ∧ (s.onLineIdle).tracks = s.tracks ∧
    (s.onLineIdle).shade = s.shade ∧ (s.onLineIdle).notes = s.notes ∧ (s.onLineIdle).keys = s.keys ∧
    (s.onLineIdle).pedals = s.pedals ∧ (s.onLineIdle).share = s.share ∧ (s.onLineIdle).prot = s.prot ∧
    (s.onLineIdle).conv = s.conv ∧ (s.onLineIdle).control = s.control ∧ (s.onLineIdle).counters = s.counters ∧
    (s.onLineIdle).pending = s.pending := by
  simp only [State.onLineIdle]
  (repeat' split) <;> simp

end Sys2Proof.Machine
end

