-- ==== Sys2Proof/Laws/Roll.lean ====
section
/-! SUPPORT. What each operation of Machine/Roll.lean leaves as it was: every part of the state but those its rules change. -/

namespace Sys2Proof.Machine

@[simp] theorem State.orphanTrack_keeps (s : State) (i : Fin 24) :
    (s.orphanTrack i).now = s.now ∧ (s.orphanTrack i).number = s.number ∧ (s.orphanTrack i).mode = s.mode ∧
    (s.orphanTrack i).voicing = s.voicing ∧ (s.orphanTrack i).scan = s.scan ∧ (s.orphanTrack i).shade = s.shade ∧
    (s.orphanTrack i).notes = s.notes ∧ (s.orphanTrack i).keys = s.keys ∧ (s.orphanTrack i).pedals = s.pedals ∧
    (s.orphanTrack i).share = s.share ∧ (s.orphanTrack i).prot = s.prot ∧ (s.orphanTrack i).conv = s.conv ∧
    (s.orphanTrack i).link = s.link ∧ (s.orphanTrack i).control = s.control ∧
    (s.orphanTrack i).counters = s.counters ∧ (s.orphanTrack i).pending = s.pending := by
  simp only [State.orphanTrack]
  (repeat' split) <;> simp

@[simp] theorem State.noteEdge_keeps (s : State) (i : Fin 24) (k : Driver) (runStart : Line) (e : Edge) :
    (s.noteEdge i k runStart e).now = s.now ∧ (s.noteEdge i k runStart e).number = s.number ∧
    (s.noteEdge i k runStart e).mode = s.mode ∧ (s.noteEdge i k runStart e).voicing = s.voicing ∧
    (s.noteEdge i k runStart e).scan = s.scan ∧ (s.noteEdge i k runStart e).pedals = s.pedals ∧
    (s.noteEdge i k runStart e).prot = s.prot ∧ (s.noteEdge i k runStart e).conv = s.conv ∧
    (s.noteEdge i k runStart e).pending = s.pending := by
  simp only [State.noteEdge]
  (repeat' split) <;> simp

@[simp] theorem State.handEdge_keeps (s : State) (line : Line) (i : Fin 24) (orphaned : Bool) (e : Edge) :
    (s.handEdge line i orphaned e).now = s.now ∧ (s.handEdge line i orphaned e).number = s.number ∧
    (s.handEdge line i orphaned e).mode = s.mode ∧ (s.handEdge line i orphaned e).voicing = s.voicing ∧
    (s.handEdge line i orphaned e).scan = s.scan ∧ (s.handEdge line i orphaned e).prot = s.prot ∧
    (s.handEdge line i orphaned e).conv = s.conv ∧ (s.handEdge line i orphaned e).pending = s.pending := by
  simp only [State.handEdge]
  (repeat' split) <;> simp

@[simp] theorem State.handTrack_keeps (before s : State) (line : Line) (cells : List Byte) (i : Fin 24) :
    (before.handTrack line cells s i).now = s.now ∧ (before.handTrack line cells s i).number = s.number ∧
    (before.handTrack line cells s i).mode = s.mode ∧ (before.handTrack line cells s i).voicing = s.voicing ∧
    (before.handTrack line cells s i).scan = s.scan ∧ (before.handTrack line cells s i).prot = s.prot ∧
    (before.handTrack line cells s i).conv = s.conv ∧ (before.handTrack line cells s i).pending = s.pending := by
  simp only [State.handTrack]
  split <;> simp

@[simp] theorem handTracks_keeps (before s : State) (line : Line) (cells : List Byte) (is : List (Fin 24)) :
    (is.foldl (before.handTrack line cells) s).now = s.now ∧
    (is.foldl (before.handTrack line cells) s).number = s.number ∧
    (is.foldl (before.handTrack line cells) s).mode = s.mode ∧
    (is.foldl (before.handTrack line cells) s).voicing = s.voicing ∧
    (is.foldl (before.handTrack line cells) s).scan = s.scan ∧
    (is.foldl (before.handTrack line cells) s).prot = s.prot ∧
    (is.foldl (before.handTrack line cells) s).conv = s.conv ∧
    (is.foldl (before.handTrack line cells) s).pending = s.pending :=
  ⟨foldl_keeps State.now _ (by simp) _ _, foldl_keeps State.number _ (by simp) _ _,
   foldl_keeps State.mode _ (by simp) _ _, foldl_keeps State.voicing _ (by simp) _ _,
   foldl_keeps State.scan _ (by simp) _ _, foldl_keeps State.prot _ (by simp) _ _,
   foldl_keeps State.conv _ (by simp) _ _, foldl_keeps State.pending _ (by simp) _ _⟩

@[simp] theorem State.moveTracks_keeps (s : State) (line : Line) (cells : List Byte) :
    (s.moveTracks line cells).now = s.now ∧ (s.moveTracks line cells).number = s.number ∧
    (s.moveTracks line cells).mode = s.mode ∧ (s.moveTracks line cells).voicing = s.voicing ∧
    (s.moveTracks line cells).scan = s.scan ∧ (s.moveTracks line cells).shade = s.shade ∧
    (s.moveTracks line cells).notes = s.notes ∧ (s.moveTracks line cells).keys = s.keys ∧
    (s.moveTracks line cells).pedals = s.pedals ∧ (s.moveTracks line cells).share = s.share ∧
    (s.moveTracks line cells).prot = s.prot ∧ (s.moveTracks line cells).conv = s.conv ∧
    (s.moveTracks line cells).link = s.link ∧ (s.moveTracks line cells).control = s.control ∧
    (s.moveTracks line cells).counters = s.counters ∧ (s.moveTracks line cells).pending = s.pending := by
  simp only [State.moveTracks]
  (repeat' split) <;> simp

@[simp] theorem State.decodeLine_keeps (s : State) (line : Line) (cells : List Byte) :
    (s.decodeLine line cells).now = s.now ∧ (s.decodeLine line cells).number = s.number ∧
    (s.decodeLine line cells).mode = s.mode ∧ (s.decodeLine line cells).voicing = s.voicing ∧
    (s.decodeLine line cells).scan = s.scan ∧ (s.decodeLine line cells).prot = s.prot ∧
    (s.decodeLine line cells).conv = s.conv ∧ (s.decodeLine line cells).pending = s.pending := by
  simp [State.decodeLine]

@[simp] theorem State.decodeLines_keeps (s : State) (line : Line) (cells : List Byte) (k : Nat) :
    (s.decodeLines line cells k).now = s.now ∧ (s.decodeLines line cells k).number = s.number ∧
    (s.decodeLines line cells k).mode = s.mode ∧ (s.decodeLines line cells k).voicing = s.voicing ∧
    (s.decodeLines line cells k).scan = s.scan ∧ (s.decodeLines line cells k).prot = s.prot ∧
    (s.decodeLines line cells k).conv = s.conv ∧ (s.decodeLines line cells k).pending = s.pending := by
  induction k generalizing s line with
  | zero => simp [State.decodeLines]
  | succ k ih => simp [State.decodeLines, ih]

@[simp] theorem State.onSweepComplete_keeps (s : State) (cells : List Byte) :
    (s.onSweepComplete cells).now = s.now ∧ (s.onSweepComplete cells).number = s.number ∧
    (s.onSweepComplete cells).mode = s.mode ∧ (s.onSweepComplete cells).voicing = s.voicing ∧
    (s.onSweepComplete cells).prot = s.prot ∧ (s.onSweepComplete cells).conv = s.conv ∧
    (s.onSweepComplete cells).pending = s.pending := by
  simp only [State.onSweepComplete]
  (repeat' split) <;> simp

@[simp] theorem State.announceLine_keeps (s : State) :
    (s.announceLine).now = s.now ∧ (s.announceLine).number = s.number ∧ (s.announceLine).mode = s.mode ∧
    (s.announceLine).voicing = s.voicing ∧ (s.announceLine).scan = s.scan ∧ (s.announceLine).tracks = s.tracks ∧
    (s.announceLine).notes = s.notes ∧ (s.announceLine).keys = s.keys ∧ (s.announceLine).pedals = s.pedals ∧
    (s.announceLine).share = s.share ∧ (s.announceLine).prot = s.prot ∧ (s.announceLine).conv = s.conv ∧
    (s.announceLine).link = s.link ∧ (s.announceLine).control = s.control ∧ (s.announceLine).counters = s.counters ∧
    (s.announceLine).pending = s.pending := by
  simp only [State.announceLine]
  (repeat' split) <;> simp

@[simp] theorem State.nextLine_keeps (s : State) :
    (s.nextLine).now = s.now ∧ (s.nextLine).number = s.number ∧ (s.nextLine).mode = s.mode ∧
    (s.nextLine).voicing = s.voicing ∧ (s.nextLine).tracks = s.tracks ∧ (s.nextLine).notes = s.notes ∧
    (s.nextLine).keys = s.keys ∧ (s.nextLine).prot = s.prot ∧ (s.nextLine).conv = s.conv ∧
    (s.nextLine).control = s.control ∧ (s.nextLine).pending = s.pending := by
  simp only [State.nextLine]
  (repeat' split) <;> simp

@[simp] theorem State.rollStart_keeps (s : State) :
    (s.rollStart).now = s.now ∧ (s.rollStart).number = s.number ∧ (s.rollStart).mode = s.mode ∧
    (s.rollStart).voicing = s.voicing ∧ (s.rollStart).notes = s.notes ∧ (s.rollStart).keys = s.keys ∧
    (s.rollStart).prot = s.prot ∧ (s.rollStart).conv = s.conv ∧ (s.rollStart).control = s.control ∧
    (s.rollStart).pending = s.pending := by
  simp only [State.rollStart]
  (repeat' split) <;> simp

@[simp] theorem State.onStrobe_keeps (s : State) :
    (s.onStrobe).now = s.now ∧ (s.onStrobe).number = s.number ∧ (s.onStrobe).mode = s.mode ∧
    (s.onStrobe).voicing = s.voicing ∧ (s.onStrobe).notes = s.notes ∧ (s.onStrobe).keys = s.keys ∧
    (s.onStrobe).prot = s.prot ∧ (s.onStrobe).conv = s.conv ∧ (s.onStrobe).control = s.control ∧
    (s.onStrobe).pending = s.pending := by
  simp only [State.onStrobe]
  (repeat' split) <;> simp

@[simp] theorem State.onStall_keeps (s : State) :
    (s.onStall).now = s.now ∧ (s.onStall).number = s.number ∧ (s.onStall).mode = s.mode ∧
    (s.onStall).voicing = s.voicing ∧ (s.onStall).tracks = s.tracks ∧ (s.onStall).pedals = s.pedals ∧
    (s.onStall).prot = s.prot ∧ (s.onStall).conv = s.conv ∧ (s.onStall).pending = s.pending := by
  simp only [State.onStall]
  (repeat' split) <;> simp

@[simp] theorem State.orphanHeldTracks_keeps (s : State) :
    (s.orphanHeldTracks).now = s.now ∧ (s.orphanHeldTracks).number = s.number ∧ (s.orphanHeldTracks).mode = s.mode ∧
    (s.orphanHeldTracks).voicing = s.voicing ∧ (s.orphanHeldTracks).scan = s.scan ∧
    (s.orphanHeldTracks).shade = s.shade ∧ (s.orphanHeldTracks).notes = s.notes ∧
    (s.orphanHeldTracks).keys = s.keys ∧ (s.orphanHeldTracks).pedals = s.pedals ∧
    (s.orphanHeldTracks).share = s.share ∧ (s.orphanHeldTracks).prot = s.prot ∧ (s.orphanHeldTracks).conv = s.conv ∧
    (s.orphanHeldTracks).link = s.link ∧ (s.orphanHeldTracks).control = s.control ∧
    (s.orphanHeldTracks).counters = s.counters ∧ (s.orphanHeldTracks).pending = s.pending := by
  simp only [State.orphanHeldTracks]
  (repeat' split) <;> simp

@[simp] theorem State.onHoldOverEnd_keeps (s : State) :
    (s.onHoldOverEnd).now = s.now ∧ (s.onHoldOverEnd).number = s.number ∧ (s.onHoldOverEnd).voicing = s.voicing ∧
    (s.onHoldOverEnd).prot = s.prot ∧ (s.onHoldOverEnd).conv = s.conv ∧ (s.onHoldOverEnd).pending = s.pending := by
  simp only [State.onHoldOverEnd]
  (repeat' split) <;> simp

end Sys2Proof.Machine
end

