-- ==== Sys2Proof/Laws/Parts.lean ====
section
/-! SUPPORT. Parts by name: what a part reads after an update of it or of another, and what a counter reads after an
increment. -/

namespace Sys2Proof.Machine

/-! ### Reading after writing -/

theorem State.key_setKey (s : State) (k j : Driver) (x : Key) : (s.setKey k x).key j = if k = j then x else s.key j := by
  simp [State.key, State.setKey, Vector.getElem_set, Fin.ext_iff]

@[simp] theorem State.key_setKey_self (s : State) (k : Driver) (x : Key) : (s.setKey k x).key k = x := by
  simp [State.key_setKey]

theorem State.key_setKey_ne (s : State) {k j : Driver} (x : Key) (h : j ≠ k) : (s.setKey k x).key j = s.key j := by
  simp [State.key_setKey, Ne.symm h]

theorem State.half_setHalf (s : State) (x : HalfShade) (h j : Half) :
    (s.setHalf x h).half j = if h = j then x else s.half j := by
  cases h <;> cases j <;> rfl

@[simp] theorem State.half_setHalf_self (s : State) (x : HalfShade) (h : Half) : (s.setHalf x h).half h = x := by
  simp [State.half_setHalf]

@[simp] theorem State.generatorLine_setHalf (s : State) (x : HalfShade) (h : Half) :
    (s.setHalf x h).shade.generatorLine = s.shade.generatorLine ∧ (s.setHalf x h).shade.trim = s.shade.trim := by
  cases h <;> exact ⟨rfl, rfl⟩

theorem State.pedal_setPedal (s : State) (x : PedalDrive) (p q : Pedal) :
    (s.setPedal x p).pedal q = if p = q then x else s.pedal q := by
  cases p <;> cases q <;> rfl

@[simp] theorem State.pedal_setPedal_self (s : State) (x : PedalDrive) (p : Pedal) : (s.setPedal x p).pedal p = x := by
  simp [State.pedal_setPedal]

@[simp] theorem State.source_setPedal (s : State) (x : PedalDrive) (p : Pedal) :
    (s.setPedal x p).pedals.lastDamper = s.pedals.lastDamper ∧ (s.setPedal x p).pedals.lastShift = s.pedals.lastShift ∧
      (s.setPedal x p).pedals.queue = s.pedals.queue := by
  cases p <;> exact ⟨rfl, rfl, rfl⟩

theorem State.claimSlot_setClaimSlot (s : State) (x : ClaimSlot) (c d : ClaimId) :
    (s.setClaimSlot x c).claimSlot d = if c = d then x else s.claimSlot d := by
  cases c <;> cases d <;> rfl

@[simp] theorem State.claimSlot_setClaimSlot_self (s : State) (x : ClaimSlot) (c : ClaimId) :
    (s.setClaimSlot x c).claimSlot c = x := by
  simp [State.claimSlot_setClaimSlot]

theorem Slots.get_set (x : Slots) (v : OutSlot) (i j : Slot) : (x.set v i).get j = if i = j then v else x.get j := by
  rcases i with (_ | _) | _ | (_ | _) | _ | _ | _ <;> rcases j with (_ | _) | _ | (_ | _) | _ | _ | _ <;> rfl

theorem State.slot_setSlot (s : State) (i j : Slot) (x : OutSlot) :
    (s.setSlot i x).slot j = if i = j then x else s.slot j := Slots.get_set _ _ _ _

@[simp] theorem State.slot_setSlot_self (s : State) (i : Slot) (x : OutSlot) : (s.setSlot i x).slot i = x := by
  simp [State.slot_setSlot]

theorem State.peer_setPeer (s : State) (n m : StationNo) (x : Peer) :
    (s.setPeer n x).peer m = if n = m then x else s.peer m := by
  simp [State.peer, State.setPeer, Vector.getElem_set, BitVec.toNat_inj]

@[simp] theorem State.peer_setPeer_self (s : State) (n : StationNo) (x : Peer) : (s.setPeer n x).peer n = x := by
  simp [State.peer_setPeer]

theorem PerCluster.get_set {α : Type} (x : PerCluster α) (v : α) (cl d : Cluster) :
    (x.set v cl).get d = if cl = d then v else x.get d := by
  cases cl <;> cases d <;> rfl

@[simp] theorem PerCluster.get_set_self {α : Type} (x : PerCluster α) (v : α) (cl : Cluster) : (x.set v cl).get cl = v := by
  simp [PerCluster.get_set]

/-! ### The timebase is no part of what the blocks hold -/

@[simp] theorem State.store_setNow (s : State) (t : Time) : (s.setNow t).store = s.store := rfl
@[simp] theorem State.half_setNow (s : State) (t : Time) (h : Half) : (s.setNow t).half h = s.half h := rfl
@[simp] theorem State.key_setNow (s : State) (t : Time) (k : Driver) : (s.setNow t).key k = s.key k := rfl
@[simp] theorem State.pedal_setNow (s : State) (t : Time) (p : Pedal) : (s.setNow t).pedal p = s.pedal p := rfl
@[simp] theorem State.claimSlot_setNow (s : State) (t : Time) (c : ClaimId) :
    (s.setNow t).claimSlot c = s.claimSlot c := rfl
@[simp] theorem State.slot_setNow (s : State) (t : Time) (i : Slot) : (s.setNow t).slot i = s.slot i := rfl
@[simp] theorem State.peer_setNow (s : State) (t : Time) (n : StationNo) : (s.setNow t).peer n = s.peer n := rfl
@[simp] theorem State.generates_setNow (s : State) (t : Time) (h : Half) :
    (s.setNow t).generates h = s.generates h := rfl
@[simp] theorem State.isPedalSource_setNow (s : State) (t : Time) : (s.setNow t).isPedalSource = s.isPedalSource := rfl
@[simp] theorem State.isPedalDrive_setNow (s : State) (t : Time) : (s.setNow t).isPedalDrive = s.isPedalDrive := rfl
@[simp] theorem State.levelOf_setNow (s : State) (t : Time) (cl : Cluster) :
    (s.setNow t).levelOf cl = s.levelOf cl := rfl
@[simp] theorem State.isShut_setNow (s : State) (t : Time) (cl : Cluster) : (s.setNow t).isShut cl = s.isShut cl := rfl
@[simp] theorem State.isWarm_setNow (s : State) (t : Time) (cl : Cluster) : (s.setNow t).isWarm cl = s.isWarm cl := rfl
@[simp] theorem State.holdOff_setNow (s : State) (t : Time) : (s.setNow t).holdOff = s.holdOff := rfl
@[simp] theorem State.capFor_setNow (s : State) (t : Time) (k : Driver) : (s.setNow t).capFor k = s.capFor k := rfl
@[simp] theorem State.dropsStrike_setNow (s : State) (t : Time) (k : Driver) :
    (s.setNow t).dropsStrike k = s.dropsStrike k := rfl
@[simp] theorem State.pedalAllowed_setNow (s : State) (t : Time) (p : Pedal) :
    (s.setNow t).pedalAllowed p = s.pedalAllowed p := rfl
@[simp] theorem State.conditionByte_setNow (s : State) (t : Time) : (s.setNow t).conditionByte = s.conditionByte := rfl
@[simp] theorem State.quiescent_setNow (s : State) (t : Time) : (s.setNow t).quiescent = s.quiescent := rfl
@[simp] theorem State.applied_setNow (s : State) (t : Time) (base : Nat) :
    (s.setNow t).applied base = s.applied base := rfl
@[simp] theorem State.baseHold_setNow (s : State) (t : Time) (k : Driver) :
    (s.setNow t).baseHold k = s.baseHold k := rfl
@[simp] theorem State.releasedBy_setNow (s : State) (t : Time) (k : Driver) (stop : Time) :
    (s.setNow t).releasedBy k stop = s.releasedBy k stop := rfl
@[simp] theorem State.readsOpen_setNow (s : State) (t : Time) (f : TrackFunction) :
    (s.setNow t).readsOpen f = s.readsOpen f := rfl
@[simp] theorem State.addressed_setNow (s : State) (t : Time) (target : Byte) :
    (s.setNow t).addressed target = s.addressed target := rfl
@[simp] theorem State.aligned_setNow (s : State) (t : Time) (line : Line) :
    (s.setNow t).aligned line = s.aligned line := rfl
@[simp] theorem State.evaluateShade_setNow (s : State) (t : Time) (h : Half) (line : Line) :
    (s.setNow t).evaluateShade h line = s.evaluateShade h line := rfl
@[simp] theorem State.oldestNeeded_setNow (s : State) (t : Time) : (s.setNow t).oldestNeeded = s.oldestNeeded := rfl
@[simp] theorem State.joinSlot_setNow (s : State) (t : Time) (start stop : Time) :
    (s.setNow t).joinSlot start stop = s.joinSlot start stop := rfl
@[simp] theorem State.freeSlot_setNow (s : State) (t : Time) : (s.setNow t).freeSlot = s.freeSlot := rfl
@[simp] theorem State.chosen_setNow (s : State) (t : Time) : (s.setNow t).chosen = s.chosen := rfl

/-- The voicing that the blocks read is the voicing in force. -/
theorem State.store_congr {s t : State} (h : t.voicing = s.voicing) : t.store = s.store := by
  simp [State.store, h]

/-! ### Counters -/

theorem Counters.get_set (x : Counters) (n : Nat) (i j : Counter) : (x.set n i).get j = if i = j then n else x.get j := by
  cases i <;> cases j <;> rfl

theorem Counters.ext_get {x y : Counters} (h : ∀ i, x.get i = y.get i) : x = y := by
  have := fun i => h i
  cases x; cases y
  simp only [Counters.mk.injEq]
  exact ⟨h .rejectedStrobes, h .mergedLines, h .notesDroppedListFull, h .notesDroppedFault, h .lateStrikes,
    h .repetitionDelays, h .forcedReleases, h .projectedShades, h .misalignedFrames, h .shadeFramesShed,
    h .shadeSegmentsEvicted, h .pedalEventsShed, h .overdrawnClaims, h .unannouncedStrikes, h .lateClaims, h .intakeLost,
    h .objections⟩

theorem State.get_count (s : State) (i j : Counter) :
    (s.count i).counters.get j = if i = j then min (s.counters.get i + 1) 65535 else s.counters.get j :=
  Counters.get_set _ _ _ _

@[simp] theorem State.get_count_self (s : State) (i : Counter) :
    (s.count i).counters.get i = min (s.counters.get i + 1) 65535 := by
  simp [State.get_count]

/-- An increment changes one counter alone. -/
theorem State.get_count_ne (s : State) {i j : Counter} (h : j ≠ i) : (s.count i).counters.get j = s.counters.get j := by
  simp [State.get_count, Ne.symm h]

/-- A drop counts as an increment does. -/
@[simp] theorem State.counters_countDrop (s : State) (i : Counter) : (s.countDrop i).counters = (s.count i).counters := rfl

@[simp] theorem State.counters_countLoss (s : State) : s.countLoss.counters = (s.count .intakeLost).counters := rfl

end Sys2Proof.Machine
end

