-- ==== Sys2Proof/Laws/Slots.lean ====
section
/-! SUPPORT. The outgoing slots and the handling in progress: what each slot operation of Machine/Ops.lean leaves in its
slot, that it touches no other slot, what a NOTICE does, and what a handling command runs. -/

namespace Sys2Proof.Machine

/-! ### Slots alone -/

theorem SlotsOnly.refl (is : List Slot) (s : State) : SlotsOnly is s s := ⟨fun _ _ => rfl, rfl⟩

/-- States whose links agree are alike for the slots. -/
theorem SlotsOnly.of_link {is : List Slot} {s t : State} (h : t.link = s.link) : SlotsOnly is s t := by
  refine ⟨fun i _ => ?_, ?_⟩ <;> simp [State.slot, h]

theorem SlotsOnly.trans {is : List Slot} {s t u : State} (h : SlotsOnly is s t) (g : SlotsOnly is t u) :
    SlotsOnly is s u := by
  refine ⟨fun i hi => (g.1 i hi).trans (h.1 i hi), ?_⟩
  rw [g.2, h.2]

theorem SlotsOnly.mono {is js : List Slot} {s t : State} (h : SlotsOnly is s t) (hij : ∀ i ∈ is, i ∈ js) :
    SlotsOnly js s t :=
  ⟨fun i hi => h.1 i fun hi' => hi (hij i hi'), h.2⟩

theorem State.slotsOnly_setSlot (s : State) (i : Slot) (x : OutSlot) : SlotsOnly [i] s (s.setSlot i x) := by
  refine ⟨fun j hj => ?_, rfl⟩
  rw [State.slot_setSlot, if_neg]
  rintro rfl
  exact hj (List.mem_singleton.2 rfl)

/-! ### Placing, overwriting, moving -/

@[simp] theorem State.slot_placeFrame_self (s : State) (i : Slot) (f : Option Payload) :
    (s.placeFrame i f).slot i = { state := .queued, frame := f, queuedAt := s.now, attempts := 0, cancel := none } := by
  simp [State.placeFrame]

theorem State.slotsOnly_placeFrame (s : State) (i : Slot) (f : Option Payload) : SlotsOnly [i] s (s.placeFrame i f) :=
  s.slotsOnly_setSlot i _

@[simp] theorem State.slot_overwriteFrame_self (s : State) (i : Slot) (f : Payload) :
    (s.overwriteFrame i f).slot i = { s.slot i with frame := some f } := by
  simp [State.overwriteFrame]

theorem State.slotsOnly_overwriteFrame (s : State) (i : Slot) (f : Payload) : SlotsOnly [i] s (s.overwriteFrame i f) :=
  s.slotsOnly_setSlot i _

@[simp] theorem State.slot_moveSlot_self (s : State) (i : Slot) (x : SlotState) :
    (s.moveSlot i x).slot i = { s.slot i with state := x, cancel := none } := by
  simp [State.moveSlot]

theorem State.slotsOnly_moveSlot (s : State) (i : Slot) (x : SlotState) : SlotsOnly [i] s (s.moveSlot i x) :=
  s.slotsOnly_setSlot i _

theorem State.slotsOnly_requestCancel (s : State) (i : Slot) (kind : CancelKind) :
    SlotsOnly [i] s (s.requestCancel i kind) := by
  unfold State.requestCancel
  split
  · exact s.slotsOnly_moveSlot i _
  · split
    · exact .refl _ _
    · exact s.slotsOnly_setSlot i _
  all_goals exact .refl _ _

/-- A cancellation request by the state of its slot (R166). -/
theorem State.slot_requestCancel_self (s : State) (i : Slot) (kind : CancelKind) :
    ((s.slot i).state = .queued →
      (s.requestCancel i kind).slot i = { s.slot i with state := .cancelled, cancel := none }) ∧
    ((s.slot i).state = .sending →
      ((s.requestCancel i kind).slot i).state = .sending ∧ ((s.requestCancel i kind).slot i).frame = (s.slot i).frame) ∧
    ((s.slot i).state.free = true → s.requestCancel i kind = s) := by
  refine ⟨fun h => by simp [State.requestCancel, h], fun h => ?_, fun h => ?_⟩
  · simp only [State.requestCancel, h]
    split <;> simp [h]
  · unfold State.requestCancel
    revert h
    cases (s.slot i).state <;> simp [SlotState.free]

/-! ### Notices (R180) -/

theorem State.slotsOnly_queueNotice (s : State) (cause : Cause) : SlotsOnly [.notice] s (s.queueNotice cause) := by
  unfold State.queueNotice
  split
  · exact s.slotsOnly_overwriteFrame _ _
  · exact .of_link rfl
  all_goals exact s.slotsOnly_placeFrame _ _

theorem State.slotsOnly_notify (before s : State) (cause : Cause) : SlotsOnly [.notice] s (State.notify before cause s) := by
  unfold State.notify
  split
  · exact s.slotsOnly_queueNotice cause
  · exact .refl _ _

/-- A NOTICE tells nothing of the condition byte itself. -/
@[simp] theorem State.conditionByte_queueNotice (s : State) (cause : Cause) :
    (s.queueNotice cause).conditionByte = s.conditionByte := by
  unfold State.queueNotice
  split <;> rfl

@[simp] theorem State.conditionByte_notify (before s : State) (cause : Cause) :
    (State.notify before cause s).conditionByte = s.conditionByte := by
  unfold State.notify
  split <;> simp

theorem State.noticeStands_queueNotice (s : State) (cause : Cause) : (s.queueNotice cause).noticeStands s.conditionByte := by
  refine ⟨cause.code, ?_⟩
  unfold State.queueNotice
  split
  · next h => left; simp [h]
  · next h => right; exact ⟨h, rfl⟩
  all_goals left; simp

/-- A changed condition byte in a mode that notices leaves a NOTICE of the new byte (R180). -/
theorem State.noticeStands_notify {before s : State} {cause : Cause} (ha : s.mode.active = true)
    (hc : s.conditionByte ≠ before.conditionByte) : (State.notify before cause s).noticeStands s.conditionByte := by
  simpa [State.notify, ha, hc] using s.noticeStands_queueNotice cause

/-- An unchanged condition byte leaves everything as it is. -/
theorem State.notify_of_same {before s : State} {cause : Cause} (h : s.conditionByte = before.conditionByte) :
    State.notify before cause s = s := by
  simp [State.notify, h]

/-! ### The handling in progress (R169) -/

theorem State.handling_of_toHandle {s : State} {e : Entry} (h : s.toHandle = some e) :
    s.link.handling = some { entry := e, done := false } := by
  unfold State.toHandle at h
  split at h
  · rename_i x hx
    obtain ⟨e', _ | _⟩ := x <;> simp_all
  · cases h

@[simp] theorem State.toHandle_setNow (s : State) (t : Time) : (s.setNow t).toHandle = s.toHandle := rfl

/-- Marking the handling done changes nothing else. -/
theorem State.markHandled_link {s : State} {e : Entry} (h : s.toHandle = some e) :
    s.markHandled.link = { s.link with handling := some { entry := e, done := true } } := by
  simp [State.markHandled, State.handling_of_toHandle h]

@[simp] theorem State.slot_markHandled (s : State) (i : Slot) : s.markHandled.slot i = s.slot i := rfl

/-- A handling command of the entry's kind runs its effect on the entry marked as handled. -/
theorem State.handle_of {s : State} {e : Entry} {act : Entry → Option (State → State)} {f : State → State}
    (h : s.toHandle = some e) (ha : act e = some f) : s.handle act = f s.markHandled := by
  simp [State.handle, h, ha]

/-- A TRANSPORT command of the entry's code, addressed to the station, acts. -/
theorem State.transport_of {s : State} {e : Entry} {code target argument : Byte} {act : Byte → State → State}
    (h : s.toHandle = some e) (hp : e.payload = .transport code target argument) (hm : s.mode.active = true)
    (ht : s.addressed target = true) : s.transport code act = act argument s.markHandled := by
  have ht' : s.markHandled.addressed target = true := ht
  simp [State.transport, State.handle, h, hp, hm, ht']

end Sys2Proof.Machine
end

