-- ==== Sys2Proof/Laws/Loads.lean ====
section
/-! SUPPORT. What the shared operations of the standing load, the keys and the pedals make: the standing load they leave,
and that the supply share unit otherwise changes only by what announces a LOAD. -/

namespace Sys2Proof.Machine

/-! ### LOAD frames (R115 to R117) -/

theorem AnnouncesLoad.refl (s : State) : AnnouncesLoad s s := rfl

theorem AnnouncesLoad.of_share {s t : State} (h : t.share = s.share) : AnnouncesLoad s t := by
  simp [AnnouncesLoad, h]

theorem AnnouncesLoad.trans {s t u : State} (h : AnnouncesLoad s t) (g : AnnouncesLoad t u) : AnnouncesLoad s u := by
  unfold AnnouncesLoad at *
  rw [g, h]

theorem State.announcesLoad_queueLoad (s : State) : AnnouncesLoad s s.queueLoad := by
  simp only [State.queueLoad, AnnouncesLoad]
  split <;> simp

@[simp] theorem State.ownLoad_queueLoad (s : State) :
    s.queueLoad.share.ownLoad = s.share.ownLoad ∧
      s.queueLoad.share.lastLoad = some { value := s.share.ownLoad, time := s.now } := by
  simp only [State.queueLoad]
  split <;> simp

theorem State.slotsOnly_queueLoad (s : State) : SlotsOnly [.load] s s.queueLoad := by
  simp only [State.queueLoad]
  split
  · exact (SlotsOnly.of_link rfl).trans (State.slotsOnly_overwriteFrame _ _ _)
  · exact .of_link rfl
  all_goals exact (SlotsOnly.of_link rfl).trans (State.slotsOnly_placeFrame _ _ _)

/-- What queueing a LOAD leaves in its slot, or as the held value (R116, R117). -/
theorem State.slot_queueLoad (s : State) :
    ((s.slot .load).state = .queued →
      s.queueLoad.slot .load = { s.slot .load with frame := some (.load (fieldOf 12 s.share.ownLoad)) }) ∧
    ((s.slot .load).state = .sending → s.queueLoad.share.heldLoad = some s.share.ownLoad ∧ s.queueLoad.link = s.link) ∧
    ((s.slot .load).state.free = true →
      s.queueLoad.slot .load =
        { state := .queued, frame := some (.load (fieldOf 12 s.share.ownLoad)), queuedAt := s.now, attempts := 0,
          cancel := none }) := by
  have h : ∀ x : Share, (s.setShare x).slot .load = s.slot .load := fun _ => rfl
  refine ⟨fun g => ?_, fun g => ?_, fun g => ?_⟩
  · simp [State.queueLoad, h, g]
  · simp [State.queueLoad, h, g]
  · simp only [State.queueLoad]
    revert g
    rw [h]
    cases (s.slot .load).state <;> simp [SlotState.free]

theorem State.announcesLoad_changeLoad (s : State) (old new : Nat) : AnnouncesLoad s (s.changeLoad old new) := by
  simp only [State.changeLoad]
  split
  · exact .refl _
  · split
    · refine AnnouncesLoad.trans ?_ (State.announcesLoad_queueLoad _)
      simp [AnnouncesLoad]
    · simp [AnnouncesLoad]

@[simp] theorem State.ownLoad_changeLoad (s : State) (old new : Nat) :
    (s.changeLoad old new).share.ownLoad = s.share.ownLoad + new - old := by
  simp only [State.changeLoad]
  split
  · omega
  · split <;> simp

theorem State.slotsOnly_changeLoad (s : State) (old new : Nat) : SlotsOnly [.load] s (s.changeLoad old new) := by
  simp only [State.changeLoad]
  split
  · exact .refl _ _
  · split
    · exact (SlotsOnly.of_link rfl).trans (State.slotsOnly_queueLoad _)
    · exact .of_link rfl

/-! ### Keys -/

theorem KeysBut.refl (k : Driver) (s : State) : KeysBut k s s := fun _ _ => rfl

theorem KeysBut.of_keys {k : Driver} {s t : State} (h : t.keys = s.keys) : KeysBut k s t := fun j _ => by
  simp [State.key, h]

theorem KeysBut.trans {k : Driver} {s t u : State} (h : KeysBut k s t) (g : KeysBut k t u) : KeysBut k s u :=
  fun j hj => (g j hj).trans (h j hj)

theorem State.keysBut_setKey (s : State) (k : Driver) (x : Key) : KeysBut k s (s.setKey k x) :=
  fun _ hj => s.key_setKey_ne x hj

@[simp] theorem State.key_changeLoad (s : State) (old new : Nat) (k : Driver) :
    (s.changeLoad old new).key k = s.key k := by
  simp [State.key]

/-- Turning a coil off (R85, R93, R96). -/
theorem State.coilOff_spec (s : State) (k : Driver) (x : Stroke) :
    (s.coilOff k x).key k = { s.key k with stroke := x, holdCurrent := 0, overRun := none, openRun := none, lowCurrent := true } ∧
      KeysBut k s (s.coilOff k x) ∧ (s.coilOff k x).share.ownLoad = s.share.ownLoad - (s.key k).holdCurrent ∧
      AnnouncesLoad s (s.coilOff k x) ∧ SlotsOnly [.load] s (s.coilOff k x) := by
  simp only [State.coilOff]
  refine ⟨by simp, ?_, by simp, ?_, ?_⟩
  · intro j hj
    rw [State.key_changeLoad, s.key_setKey_ne _ hj]
  · exact (AnnouncesLoad.of_share (by simp)).trans (State.announcesLoad_changeLoad _ _ _)
  · exact (SlotsOnly.of_link (by simp)).trans (State.slotsOnly_changeLoad _ _ _)

/-- A key entering RETURN (R85, R70). -/
theorem State.enterReturn_spec (s : State) (k : Driver) :
    (s.enterReturn k).key k =
        { s.key k with
          stroke := .returning s.now, holdCurrent := 0, overRun := none, openRun := none, lowCurrent := true } ∧
      KeysBut k s (s.enterReturn k) ∧
      (s.enterReturn k).notes = s.notes.filter (fun n => !(n.driver = k && n.state = .sounding)) ∧
      (s.enterReturn k).share.ownLoad = s.share.ownLoad - (s.key k).holdCurrent ∧
      AnnouncesLoad s (s.enterReturn k) ∧ SlotsOnly [.load] s (s.enterReturn k) := by
  obtain ⟨h1, h2, h3, h4, h5⟩ := s.coilOff_spec k (.returning s.now)
  exact ⟨h1, h2.trans (.of_keys rfl), by simp [State.enterReturn, State.removeSounding], h3, h4, h5⟩

/-- Holding a key at the base duty now in force (R84, R95). -/
theorem State.holdKey_spec (s : State) (k : Driver) (run : Option Time) :
    (s.holdKey k run).key k =
        { s.key k with
          stroke := .hold (s.baseHold k) (s.applied (s.baseHold k))
          holdCurrent := currentAt (s.store.key k).iFull (s.baseHold k)
          openRun := if s.applied (s.baseHold k) = 0 then none else run } ∧
      KeysBut k s (s.holdKey k run) ∧
      (s.holdKey k run).share.ownLoad =
        s.share.ownLoad + currentAt (s.store.key k).iFull (s.baseHold k) - (s.key k).holdCurrent ∧
      AnnouncesLoad s (s.holdKey k run) ∧ SlotsOnly [.load] s (s.holdKey k run) := by
  simp only [State.holdKey]
  refine ⟨by simp, ?_, by simp, ?_, ?_⟩
  · intro j hj
    rw [State.key_changeLoad, s.key_setKey_ne _ hj]
  · exact (AnnouncesLoad.of_share (by simp)).trans (State.announcesLoad_changeLoad _ _ _)
  · exact (SlotsOnly.of_link (by simp)).trans (State.slotsOnly_changeLoad _ _ _)

/-! ### Pedals -/

@[simp] theorem State.pedal_changeLoad (s : State) (old new : Nat) (p : Pedal) :
    (s.changeLoad old new).pedal p = s.pedal p := by
  cases p <;> simp [State.pedal]

/-- Putting a pedal machine in a state at a base duty (R109 to R111). -/
theorem State.drivePedal_spec (s : State) (p : Pedal) (x : PedalState) (base : Nat) :
    (s.drivePedal p x base).pedal p =
        { s.pedal p with
          state := x, base, applied := s.applied base, load := pedalLoad s.store.iFullPedal x base
          overRun := if base = 0 then none else (s.pedal p).overRun } ∧
      (∀ q : Pedal, q ≠ p → (s.drivePedal p x base).pedal q = s.pedal q) ∧
      (s.drivePedal p x base).share.ownLoad =
        s.share.ownLoad + pedalLoad s.store.iFullPedal x base - (s.pedal p).load ∧
      AnnouncesLoad s (s.drivePedal p x base) ∧ SlotsOnly [.load] s (s.drivePedal p x base) ∧
      (s.drivePedal p x base).pedals.queue = s.pedals.queue := by
  simp only [State.drivePedal]
  refine ⟨by simp, fun q hq => ?_, by simp, ?_, ?_, by simp⟩
  · simp [State.pedal_setPedal, Ne.symm hq]
  · exact (AnnouncesLoad.of_share (by simp)).trans (State.announcesLoad_changeLoad _ _ _)
  · exact (SlotsOnly.of_link (by simp)).trans (State.slotsOnly_changeLoad _ _ _)

end Sys2Proof.Machine
end

