-- ==== Sys2Proof/Laws/Counters.lean ====
section
/-! SUPPORT. The counters: no operation lowers one or takes it beyond its 16 bits (R183). -/

namespace Sys2Proof.Machine

/-- Counters that rise from others, within 65,535 wherever those are. -/
def Rises (c d : Counters) : Prop := ∀ i : Counter, c.get i ≤ 65535 → c.get i ≤ d.get i ∧ d.get i ≤ 65535

theorem Rises.refl (c : Counters) : Rises c c := fun _ h => ⟨Nat.le_refl _, h⟩

@[simp] theorem State.count_rises {c₀ : Counters} (s : State) (i : Counter) (h₀ : Rises c₀ s.counters) :
    Rises c₀ (s.count i).counters := by
  intro j
  intro hj
  have h := h₀ j hj
  rw [State.get_count]
  split
  · subst_vars
    omega
  · exact h

@[simp] theorem State.countDrop_rises {c₀ : Counters} (s : State) (i : Counter) (h₀ : Rises c₀ s.counters) :
    Rises c₀ (s.countDrop i).counters := s.count_rises i h₀

@[simp] theorem State.countLoss_rises {c₀ : Counters} (s : State) (h₀ : Rises c₀ s.counters) :
    Rises c₀ s.countLoss.counters := s.count_rises _ h₀

@[simp] theorem State.markOverdrawn_rises {c₀ : Counters} (s : State) (c : ClaimId) (h₀ : Rises c₀ s.counters) :
    Rises c₀ (s.markOverdrawn c).counters := by
  simp only [State.markOverdrawn]
  (repeat' split) <;> simp (maxDischargeDepth := 9) [h₀]

@[simp] theorem State.countLate_rises {c₀ : Counters} (s : State) (k : Nat) (h₀ : Rises c₀ s.counters) :
    Rises c₀ (s.countLate k).counters := by
  induction k generalizing s with
  | zero => simpa [State.countLate] using h₀
  | succ k ih =>
    simp only [State.countLate]
    (repeat' split) <;> simp (maxDischargeDepth := 9) [ih, h₀]

@[simp] theorem State.reduceMembers_rises {c₀ : Counters} (s : State) (c : ClaimId) (headroom amount : Nat) (h₀ : Rises c₀ s.counters) :
    Rises c₀ (s.reduceMembers c headroom amount).counters := by
  simp only [State.reduceMembers]
  (repeat' split) <;> simp (maxDischargeDepth := 9) [h₀]

@[simp] theorem State.fit_rises {c₀ : Counters} (s : State) (c : ClaimId) (h₀ : Rises c₀ s.counters) :
    Rises c₀ (s.fit c).counters := by
  simp only [State.fit]
  (repeat' split) <;> simp (maxDischargeDepth := 9) [h₀]

@[simp] theorem State.fitAlone_rises {c₀ : Counters} (s : State) (n : Note) (k : Strike) (stop : Time) (h₀ : Rises c₀ s.counters) :
    Rises c₀ (s.fitAlone n k stop).counters := by
  simp only [State.fitAlone]
  (repeat' split) <;> simp (maxDischargeDepth := 9) [h₀]

@[simp] theorem State.placeClaim_rises {c₀ : Counters} (s : State) (n : Note) (k : Strike) (h₀ : Rises c₀ s.counters) :
    Rises c₀ (s.placeClaim n k).counters := by
  simp only [State.placeClaim]
  (repeat' split) <;> simp (maxDischargeDepth := 9) [h₀]

@[simp] theorem State.lateClaim_rises {c₀ : Counters} (s : State) (n : Note) (h₀ : Rises c₀ s.counters) :
    Rises c₀ (s.lateClaim n).counters := by
  simp only [State.lateClaim]
  (repeat' split) <;> simp (maxDischargeDepth := 9) [h₀]

@[simp] theorem State.compareDeferred_rises {c₀ : Counters} (s : State) (n : Note) (fire : Time) (h₀ : Rises c₀ s.counters) :
    Rises c₀ (s.compareDeferred n fire).counters := by
  simp only [State.compareDeferred]
  (repeat' split) <;> simp (maxDischargeDepth := 9) [h₀]

@[simp] theorem State.dropNote_rises {c₀ : Counters} (s : State) (n : Note) (h₀ : Rises c₀ s.counters) :
    Rises c₀ (s.dropNote n).counters := by
  simp only [State.dropNote]
  (repeat' split) <;> simp (maxDischargeDepth := 9) [h₀]

/-- A fold of operations that each raise the counters raises them. -/
theorem foldl_rises {α : Type} {c₀ : Counters} (f : State → α → State)
    (h : ∀ s a, Rises c₀ s.counters → Rises c₀ (f s a).counters) (l : List α) (s : State)
    (h₀ : Rises c₀ s.counters) : Rises c₀ (l.foldl f s).counters := by
  induction l generalizing s with
  | nil => exact h₀
  | cons a l ih => exact ih _ (h s a h₀)

@[simp] theorem State.dropNotes_rises {c₀ : Counters} (s : State) (p : Note → Bool) (h₀ : Rises c₀ s.counters) :
    Rises c₀ (s.dropNotes p).counters := foldl_rises _ (fun _ _ h => by simp [h]) _ _ h₀

@[simp] theorem State.faultKey_rises {c₀ : Counters} (s : State) (k : Driver) (h₀ : Rises c₀ s.counters) :
    Rises c₀ (s.faultKey k).counters := by
  simp only [State.faultKey]
  (repeat' split) <;> simp (maxDischargeDepth := 9) [h₀]

@[simp] theorem State.queueShade_rises {c₀ : Counters} (s : State) (h : Half) (f : ShadeFrame) (h₀ : Rises c₀ s.counters) :
    Rises c₀ (s.queueShade h f).counters := by
  simp only [State.queueShade]
  (repeat' split) <;> simp (maxDischargeDepth := 9) [h₀]

@[simp] theorem State.placeSegment_rises {c₀ : Counters} (s : State) (h : Half) (g : Segment) (h₀ : Rises c₀ s.counters) :
    Rises c₀ (s.placeSegment h g).counters := by
  simp only [State.placeSegment]
  (repeat' split) <;> simp (maxDischargeDepth := 9) [h₀]

@[simp] theorem State.emitSegment_rises {c₀ : Counters} (s : State) (h : Half) (g : Segment) (h₀ : Rises c₀ s.counters) :
    Rises c₀ (s.emitSegment h g).counters := by
  simp only [State.emitSegment]
  (repeat' split) <;> simp (maxDischargeDepth := 9) [h₀]

@[simp] theorem State.generatorEdge_rises {c₀ : Counters} (s : State) (h : Half) (line : Line) (h₀ : Rises c₀ s.counters) :
    Rises c₀ (s.generatorEdge h line).counters := by
  simp only [State.generatorEdge]
  (repeat' split) <;> simp (maxDischargeDepth := 9) [h₀]

@[simp] theorem State.reannounceHalf_rises {c₀ : Counters} (s : State) (h : Half) (valueAt start : Line) (h₀ : Rises c₀ s.counters) :
    Rises c₀ (s.reannounceHalf h valueAt start).counters := by
  simp only [State.reannounceHalf]
  (repeat' split) <;> simp (maxDischargeDepth := 9) [h₀]

@[simp] theorem State.reannouncePlay_rises {c₀ : Counters} (s : State) (h₀ : Rises c₀ s.counters) :
    Rises c₀ (s.reannouncePlay).counters := by
  simp only [State.reannouncePlay]
  (repeat' split) <;> simp (maxDischargeDepth := 9) [h₀]

@[simp] theorem State.shadeRollStart_rises {c₀ : Counters} (s : State) (h₀ : Rises c₀ s.counters) :
    Rises c₀ (s.shadeRollStart).counters := by
  simp only [State.shadeRollStart]
  (repeat' split) <;> simp (maxDischargeDepth := 9) [h₀]

@[simp] theorem State.onKeepCount_rises {c₀ : Counters} (s : State) (h : Half) (h₀ : Rises c₀ s.counters) :
    Rises c₀ (s.onKeepCount h).counters := by
  simp only [State.onKeepCount]
  (repeat' split) <;> simp (maxDischargeDepth := 9) [h₀]

@[simp] theorem State.takeSegment_rises {c₀ : Counters} (s : State) (h : Half) (g : Segment) (h₀ : Rises c₀ s.counters) :
    Rises c₀ (s.takeSegment h g).counters := by
  simp only [State.takeSegment]
  (repeat' split) <;> simp (maxDischargeDepth := 9) [h₀]

@[simp] theorem State.takeKeep_rises {c₀ : Counters} (s : State) (h : Half) (line : Line) (h₀ : Rises c₀ s.counters) :
    Rises c₀ (s.takeKeep h line).counters := by
  simp only [State.takeKeep]
  (repeat' split) <;> simp (maxDischargeDepth := 9) [h₀]

@[simp] theorem State.armNote_rises {c₀ : Counters} (s : State) (n : Note) (h₀ : Rises c₀ s.counters) :
    Rises c₀ (s.armNote n).counters := by
  simp only [State.armNote]
  (repeat' split) <;> simp (maxDischargeDepth := 9) [h₀]

@[simp] theorem State.deferAtKey_rises {c₀ : Counters} (s : State) (k : Driver) (h₀ : Rises c₀ s.counters) :
    Rises c₀ (s.deferAtKey k).counters := by
  simp only [State.deferAtKey]
  (repeat' split) <;> simp (maxDischargeDepth := 9) [h₀]

@[simp] theorem State.fireNote_rises {c₀ : Counters} (s : State) (n : Note) (h₀ : Rises c₀ s.counters) :
    Rises c₀ (s.fireNote n).counters := by
  simp only [State.fireNote]
  (repeat' split) <;> simp (maxDischargeDepth := 9) [h₀]

@[simp] theorem State.takeNote_rises {c₀ : Counters} (s : State) (n : Note) (h₀ : Rises c₀ s.counters) :
    Rises c₀ (s.takeNote n).counters := by
  simp only [State.takeNote]
  (repeat' split) <;> simp (maxDischargeDepth := 9) [h₀]

@[simp] theorem State.settleWith_rises {c₀ : Counters} (k : Nat) (s : State) (h₀ : Rises c₀ s.counters) :
    Rises c₀ (State.settleWith k s).counters := by
  induction k generalizing s with
  | zero => simpa [State.settleWith] using h₀
  | succ k ih =>
    simp only [State.settleWith]
    (repeat' split) <;> simp (maxDischargeDepth := 9) [ih, h₀]

@[simp] theorem State.settle_rises {c₀ : Counters} (s : State) (h₀ : Rises c₀ s.counters) :
    Rises c₀ (s.settle).counters := by
  simp only [State.settle]
  (repeat' split) <;> simp (maxDischargeDepth := 9) [h₀]

@[simp] theorem State.armAtStall_rises {c₀ : Counters} (s : State) (n : Note) (h₀ : Rises c₀ s.counters) :
    Rises c₀ (s.armAtStall n).counters := by
  simp only [State.armAtStall]
  (repeat' split) <;> simp (maxDischargeDepth := 9) [h₀]

@[simp] theorem State.armAllWith_rises {c₀ : Counters} (k : Nat) (s : State) (h₀ : Rises c₀ s.counters) :
    Rises c₀ (State.armAllWith k s).counters := by
  induction k generalizing s with
  | zero => simpa [State.armAllWith] using h₀
  | succ k ih =>
    simp only [State.armAllWith]
    (repeat' split) <;> simp (maxDischargeDepth := 9) [ih, h₀]

@[simp] theorem State.armAll_rises {c₀ : Counters} (s : State) (h₀ : Rises c₀ s.counters) :
    Rises c₀ (s.armAll).counters := by
  simp only [State.armAll]
  (repeat' split) <;> simp (maxDischargeDepth := 9) [h₀]

@[simp] theorem State.onDue_rises {c₀ : Counters} (s : State) (x : NoteState) (h₀ : Rises c₀ s.counters) :
    Rises c₀ (s.onDue x).counters := by
  simp only [State.onDue]
  (repeat' split) <;> simp (maxDischargeDepth := 9) [h₀]

@[simp] theorem State.closeNote_rises {c₀ : Counters} (s : State) (k : Driver) (closeTime : Time) (h₀ : Rises c₀ s.counters) :
    Rises c₀ (s.closeNote k closeTime).counters := by
  simp only [State.closeNote]
  (repeat' split) <;> simp (maxDischargeDepth := 9) [h₀]

@[simp] theorem State.onset_rises {c₀ : Counters} (s : State) (k : Driver) (line : Line) (time : Time) (h₀ : Rises c₀ s.counters) :
    Rises c₀ (s.onset k line time).counters := by
  simp only [State.onset]
  (repeat' split) <;> simp (maxDischargeDepth := 9) [h₀]

@[simp] theorem State.releaseAll_rises {c₀ : Counters} (s : State) (h₀ : Rises c₀ s.counters) :
    Rises c₀ (s.releaseAll).counters := by
  simp only [State.releaseAll]
  (repeat' split) <;> simp (maxDischargeDepth := 9) [h₀]

@[simp] theorem State.stopNotes_rises {c₀ : Counters} (s : State) (h₀ : Rises c₀ s.counters) :
    Rises c₀ (s.stopNotes).counters := by
  simp only [State.stopNotes]
  (repeat' split) <;> simp (maxDischargeDepth := 9) [h₀]

@[simp] theorem State.enterPedalEvent_rises {c₀ : Counters} (s : State) (m : PedalMove) (h₀ : Rises c₀ s.counters) :
    Rises c₀ (s.enterPedalEvent m).counters := by
  simp only [State.enterPedalEvent]
  (repeat' split) <;> simp (maxDischargeDepth := 9) [h₀]

@[simp] theorem State.queuePedal_rises {c₀ : Counters} (s : State) (m : PedalMove) (h₀ : Rises c₀ s.counters) :
    Rises c₀ (s.queuePedal m).counters := by
  simp only [State.queuePedal, State.feedPedal_keeps]
  split
  · exact h₀
  · split
    · exact h₀
    · exact State.count_rises _ _ h₀

@[simp] theorem State.emitPedal_rises {c₀ : Counters} (s : State) (m : PedalMove) (h₀ : Rises c₀ s.counters) :
    Rises c₀ (s.emitPedal m).counters := by
  simp only [State.emitPedal]
  (repeat' split) <;> simp (maxDischargeDepth := 9) [h₀]

@[simp] theorem State.pedalEdge_rises {c₀ : Counters} (s : State) (line : Line) (h₀ : Rises c₀ s.counters) :
    Rises c₀ (s.pedalEdge line).counters := by
  simp only [State.pedalEdge]
  split <;> split
  · exact State.emitPedal_rises _ _ (State.emitPedal_rises _ _ h₀)
  · exact State.emitPedal_rises _ _ h₀
  · exact State.emitPedal_rises _ _ h₀
  · exact h₀

@[simp] theorem State.reannouncePedals_rises {c₀ : Counters} (s : State) (line : Line) (h₀ : Rises c₀ s.counters) :
    Rises c₀ (s.reannouncePedals line).counters := by
  simp only [State.reannouncePedals]
  split
  · exact State.emitPedal_rises _ _ (State.emitPedal_rises _ _ h₀)
  · exact h₀

@[simp] theorem State.takePedalFrame_rises {c₀ : Counters} (s : State) (e : Entry) (p : Pedal) (code : BitVec 2) (line : Line) (h₀ : Rises c₀ s.counters) :
    Rises c₀ (s.takePedalFrame e p code line).counters := by
  simp only [State.takePedalFrame]
  (repeat' split) <;> simp (maxDischargeDepth := 9) [h₀]

@[simp] theorem State.onOvercurrent_rises {c₀ : Counters} (s : State) (k : Driver) (h₀ : Rises c₀ s.counters) :
    Rises c₀ (s.onOvercurrent k).counters := by
  simp only [State.onOvercurrent]
  (repeat' split) <;> simp (maxDischargeDepth := 9) [h₀]

@[simp] theorem State.refitAndQueue_rises {c₀ : Counters} (s : State) (c : ClaimId) (h₀ : Rises c₀ s.counters) :
    Rises c₀ (s.refitAndQueue c).counters := by
  simp only [State.refitAndQueue]
  (repeat' split) <;> simp (maxDischargeDepth := 9) [h₀]

@[simp] theorem State.recheckSlot_rises {c₀ : Counters} (s : State) (c : ClaimId) (h₀ : Rises c₀ s.counters) :
    Rises c₀ (s.recheckSlot c).counters := by
  simp only [State.recheckSlot]
  (repeat' split) <;> simp (maxDischargeDepth := 9) [h₀]

@[simp] theorem State.recheck_rises {c₀ : Counters} (s : State) (h₀ : Rises c₀ s.counters) :
    Rises c₀ (s.recheck).counters := by
  simp only [State.recheck]
  (repeat' split) <;> simp (maxDischargeDepth := 9) [h₀]

@[simp] theorem State.takeLoad_rises {c₀ : Counters} (s : State) (e : Entry) (value : Nat) (h₀ : Rises c₀ s.counters) :
    Rises c₀ (s.takeLoad e value).counters := by
  simp only [State.takeLoad]
  (repeat' split) <;> simp (maxDischargeDepth := 9) [h₀]

@[simp] theorem State.takeClaim_rises {c₀ : Counters} (s : State) (e : Entry) (r : ClaimRecord) (h₀ : Rises c₀ s.counters) :
    Rises c₀ (s.takeClaim e r).counters := by
  simp only [State.takeClaim]
  (repeat' split) <;> simp (maxDischargeDepth := 9) [h₀]

@[simp] theorem State.shutCluster_rises {c₀ : Counters} (s : State) (cl : Cluster) (h₀ : Rises c₀ s.counters) :
    Rises c₀ (s.shutCluster cl).counters := by
  simp only [State.shutCluster]
  (repeat' split) <;> simp (maxDischargeDepth := 9) [h₀]

@[simp] theorem State.thermalShutdown_rises {c₀ : Counters} (s : State) (cl : Cluster) (h₀ : Rises c₀ s.counters) :
    Rises c₀ (s.thermalShutdown cl).counters := by
  simp only [State.thermalShutdown]
  (repeat' split) <;> simp (maxDischargeDepth := 9) [h₀]

@[simp] theorem State.onTemperature_rises {c₀ : Counters} (s : State) (cl : Cluster) (temp : Int) (h₀ : Rises c₀ s.counters) :
    Rises c₀ (s.onTemperature cl temp).counters := by
  simp only [State.onTemperature]
  (repeat' split) <;> simp (maxDischargeDepth := 9) [h₀]

@[simp] theorem State.onTemperatureSample_rises {c₀ : Counters} (s : State) (temp : Int) (h₀ : Rises c₀ s.counters) :
    Rises c₀ (s.onTemperatureSample temp).counters := by
  simp only [State.onTemperatureSample]
  (repeat' split) <;> simp (maxDischargeDepth := 9) [h₀]

@[simp] theorem State.enterPlay_rises {c₀ : Counters} (s : State) (h₀ : Rises c₀ s.counters) :
    Rises c₀ (s.enterPlay).counters := by
  simp only [State.enterPlay]
  (repeat' split) <;> simp (maxDischargeDepth := 9) [h₀]

@[simp] theorem State.onPlay_rises {c₀ : Counters} (s : State) (h₀ : Rises c₀ s.counters) :
    Rises c₀ (s.onPlay).counters := by
  simp only [State.onPlay]
  (repeat' split) <;> simp (maxDischargeDepth := 9) [h₀]

@[simp] theorem State.onStop_rises {c₀ : Counters} (s : State) (h₀ : Rises c₀ s.counters) :
    Rises c₀ (s.onStop).counters := by
  simp only [State.onStop]
  split
  · simp only [State.settleMode_keeps, State.cancelClaims_keeps, State.actPedal_keeps]
    exact State.stopNotes_rises _ h₀
  · exact h₀

@[simp] theorem State.enterIntake_rises {c₀ : Counters} (s : State) (e : Entry) (places : Nat) (h₀ : Rises c₀ s.counters) :
    Rises c₀ (s.enterIntake e places).counters := by
  simp only [State.enterIntake]
  (repeat' split) <;> simp (maxDischargeDepth := 9) [h₀]

@[simp] theorem State.weighClaim_rises {c₀ : Counters} (s : State) (c : ClaimId) (h₀ : Rises c₀ s.counters) :
    Rises c₀ (s.weighClaim c).counters := by
  simp only [State.weighClaim]
  (repeat' split) <;> simp (maxDischargeDepth := 9) [h₀]

@[simp] theorem State.beginClaim_rises {c₀ : Counters} (s : State) (c : ClaimId) (h₀ : Rises c₀ s.counters) :
    Rises c₀ (s.beginClaim c).counters := by
  simp only [State.beginClaim]
  (repeat' split) <;> simp (maxDischargeDepth := 9) [h₀]

@[simp] theorem State.hearStart_rises {c₀ : Counters} (s : State) (h₀ : Rises c₀ s.counters) :
    Rises c₀ (s.hearStart).counters := by
  simp only [State.hearStart]
  (repeat' split) <;> simp (maxDischargeDepth := 9) [h₀]

@[simp] theorem State.onAttemptStart_rises {c₀ : Counters} (s : State) (h₀ : Rises c₀ s.counters) :
    Rises c₀ (s.onAttemptStart).counters := by
  simp only [State.onAttemptStart]
  (repeat' split) <;> simp (maxDischargeDepth := 9) [h₀]

@[simp] theorem State.enterEcho_rises {c₀ : Counters} (s : State) (frame : Payload) (h₀ : Rises c₀ s.counters) :
    Rises c₀ (s.enterEcho frame).counters := by
  simp only [State.enterEcho]
  (repeat' split) <;> simp (maxDischargeDepth := 9) [h₀]

@[simp] theorem State.attemptClean_rises {c₀ : Counters} (s : State) (a : Attempt) (h₀ : Rises c₀ s.counters) :
    Rises c₀ (s.attemptClean a).counters := by
  simp only [State.attemptClean]
  (repeat' split) <;> simp (maxDischargeDepth := 9) [h₀]

@[simp] theorem State.afterObjection_rises {c₀ : Counters} (s : State) (i : Slot) (h₀ : Rises c₀ s.counters) :
    Rises c₀ (s.afterObjection i).counters := by
  simp only [State.afterObjection]
  (repeat' split) <;> simp (maxDischargeDepth := 9) [h₀]

@[simp] theorem State.attemptObjected_rises {c₀ : Counters} (s : State) (a : Attempt) (h₀ : Rises c₀ s.counters) :
    Rises c₀ (s.attemptObjected a).counters := by
  simp only [State.attemptObjected]
  (repeat' split) <;> simp (maxDischargeDepth := 9) [h₀]

@[simp] theorem State.onAttemptEnd_rises {c₀ : Counters} (s : State) (objected : Bool) (h₀ : Rises c₀ s.counters) :
    Rises c₀ (s.onAttemptEnd objected).counters := by
  simp only [State.onAttemptEnd]
  split
  · simp only [State.settleMode_keeps]
    split
    · exact State.attemptObjected_rises _ _ h₀
    · exact State.attemptClean_rises _ _ h₀
  · exact h₀

@[simp] theorem State.requeue_rises {c₀ : Counters} (s : State) (i : Slot) (h₀ : Rises c₀ s.counters) :
    Rises c₀ (s.requeue i).counters := by
  simp only [State.requeue]
  (repeat' split) <;> simp (maxDischargeDepth := 9) [h₀]

@[simp] theorem State.onArbitrationLost_rises {c₀ : Counters} (s : State) (h₀ : Rises c₀ s.counters) :
    Rises c₀ (s.onArbitrationLost).counters := by
  simp only [State.onArbitrationLost]
  split
  · simp only [State.settleMode_keeps]
    split
    · exact State.requeue_rises _ _ h₀
    · exact h₀
  · exact h₀



@[simp] theorem State.noteEdge_rises {c₀ : Counters} (s : State) (i : Fin 24) (k : Driver) (runStart : Line) (e : Edge) (h₀ : Rises c₀ s.counters) :
    Rises c₀ (s.noteEdge i k runStart e).counters := by
  simp only [State.noteEdge]
  (repeat' split) <;> simp (maxDischargeDepth := 9) [h₀]

@[simp] theorem State.handEdge_rises {c₀ : Counters} (s : State) (line : Line) (i : Fin 24) (orphaned : Bool) (e : Edge) (h₀ : Rises c₀ s.counters) :
    Rises c₀ (s.handEdge line i orphaned e).counters := by
  simp only [State.handEdge]
  (repeat' split) <;> simp (maxDischargeDepth := 9) [h₀]

@[simp] theorem State.handTrack_rises {c₀ : Counters} (before : State) (line : Line) (cells : List Byte) (s : State)
    (i : Fin 24) (h₀ : Rises c₀ s.counters) : Rises c₀ (before.handTrack line cells s i).counters := by
  simp only [State.handTrack]
  split <;> simp [h₀]

@[simp] theorem State.decodeLine_rises {c₀ : Counters} (s : State) (line : Line) (cells : List Byte)
    (h₀ : Rises c₀ s.counters) : Rises c₀ (s.decodeLine line cells).counters := by
  simp only [State.decodeLine, State.setShade_counters]
  exact foldl_rises _ (fun _ _ h => by simp [h]) _ _ (by simpa using h₀)

@[simp] theorem State.decodeLines_rises {c₀ : Counters} (s : State) (line : Line) (cells : List Byte) (k : Nat) (h₀ : Rises c₀ s.counters) :
    Rises c₀ (s.decodeLines line cells k).counters := by
  induction k generalizing s line with
  | zero => exact s.decodeLine_rises _ _ h₀
  | succ k ih => exact ih _ _ (s.decodeLine_rises _ _ h₀)

@[simp] theorem State.onSweepComplete_rises {c₀ : Counters} (s : State) (cells : List Byte) (h₀ : Rises c₀ s.counters) :
    Rises c₀ (s.onSweepComplete cells).counters := by
  simp only [State.onSweepComplete]
  (repeat' split) <;> simp (maxDischargeDepth := 9) [h₀]

@[simp] theorem State.nextLine_rises {c₀ : Counters} (s : State) (h₀ : Rises c₀ s.counters) :
    Rises c₀ (s.nextLine).counters := by
  simp only [State.nextLine]
  (repeat' split) <;> simp (maxDischargeDepth := 9) [h₀]

@[simp] theorem State.rollStart_rises {c₀ : Counters} (s : State) (h₀ : Rises c₀ s.counters) :
    Rises c₀ (s.rollStart).counters := by
  simp only [State.rollStart]
  (repeat' split) <;> simp (maxDischargeDepth := 9) [h₀]

@[simp] theorem State.onStrobe_rises {c₀ : Counters} (s : State) (h₀ : Rises c₀ s.counters) :
    Rises c₀ (s.onStrobe).counters := by
  simp only [State.onStrobe]
  (repeat' split) <;> simp (maxDischargeDepth := 9) [h₀]

@[simp] theorem State.onStall_rises {c₀ : Counters} (s : State) (h₀ : Rises c₀ s.counters) :
    Rises c₀ (s.onStall).counters := by
  simp only [State.onStall]
  split
  · exact State.armAll_rises _ h₀
  · exact h₀

@[simp] theorem State.onHoldOverEnd_rises {c₀ : Counters} (s : State) (h₀ : Rises c₀ s.counters) :
    Rises c₀ (s.onHoldOverEnd).counters := by
  simp only [State.onHoldOverEnd]
  (repeat' split) <;> simp (maxDischargeDepth := 9) [h₀]

end Sys2Proof.Machine
end

