-- ==== Sys2Proof/Laws/Notes.lean ====
section
/-! SUPPORT. The note list and the peer load table: what putting records in order keeps, when nothing is left to be reached
at once, and that removing what has expired changes no reckoning. -/

namespace Sys2Proof.Machine

/-! ### The order keeps the records (R58) -/

@[simp] theorem mem_insertNote (current : Line) (n m : Note) (ns : List Note) :
    m ∈ insertNote current n ns ↔ m = n ∨ m ∈ ns := by
  induction ns with
  | nil => simp [insertNote]
  | cons a ns ih =>
    simp only [insertNote]
    split
    · simp only [List.mem_cons, ih]
      constructor <;> rintro (h | h | h) <;> simp [h]
    · simp

@[simp] theorem length_insertNote (current : Line) (n : Note) (ns : List Note) :
    (insertNote current n ns).length = ns.length + 1 := by
  induction ns with
  | nil => rfl
  | cons a ns ih =>
    simp only [insertNote]
    split <;> simp [ih]

@[simp] theorem mem_sortNotes (current : Line) (m : Note) (ns : List Note) : m ∈ sortNotes current ns ↔ m ∈ ns := by
  induction ns with
  | nil => simp [sortNotes]
  | cons a ns ih =>
    rw [sortNotes, List.foldr_cons, ← sortNotes, mem_insertNote, ih, List.mem_cons]

@[simp] theorem length_sortNotes (current : Line) (ns : List Note) : (sortNotes current ns).length = ns.length := by
  induction ns with
  | nil => rfl
  | cons a ns ih =>
    rw [sortNotes, List.foldr_cons, ← sortNotes, length_insertNote, ih, List.length_cons]

@[simp] theorem State.mem_placeNotes (s : State) (m : Note) (ns : List Note) : m ∈ (s.placeNotes ns).notes ↔ m ∈ ns := by
  simp [State.placeNotes]

@[simp] theorem State.length_placeNotes (s : State) (ns : List Note) : (s.placeNotes ns).notes.length = ns.length := by
  simp [State.placeNotes]

/-- The records after a change of one: the changed ones, and the others as they were. -/
theorem State.mem_changeNote (s : State) (n m : Note) (f : Note → Note) :
    m ∈ (s.changeNote n f).notes ↔ ∃ x ∈ s.notes, (if x.same n then f x else x) = m := by
  simp [State.changeNote]

@[simp] theorem State.length_changeNote (s : State) (n : Note) (f : Note → Note) :
    (s.changeNote n f).notes.length = s.notes.length := by
  simp [State.changeNote]

theorem Note.same_self (n : Note) : n.same n = true := by
  simp [Note.same]

/-! ### Between events (R59) -/

theorem State.settleWith_settled (fuel : Nat) (s : State) (h : s.settled) : State.settleWith fuel s = s := by
  cases fuel with
  | zero =>
    have : s.notes.map (fun n => { n with atOnce := false }) = s.notes :=
      (List.map_congr_left fun n hn => by simp [← h n hn]).trans (List.map_id _)
    rw [State.settleWith, this]
    rfl
  | succ fuel =>
    have : s.notes.find? Note.atOnce = none := by
      rw [List.find?_eq_none]
      intro n hn
      simp [h n hn]
    simp [State.settleWith, this]

/-- With nothing left to be reached at once an event is over. -/
theorem State.settle_settled (s : State) (h : s.settled) : s.settle = s := State.settleWith_settled _ s h

/-! ### What has expired (R122, R123) -/

@[simp] theorem liveClaims_liveClaims (now : Time) (rs : List ClaimRecord) :
    liveClaims now (liveClaims now rs) = liveClaims now rs := by
  simp [liveClaims]

@[simp] theorem claimsOver_liveClaims (now start stop : Time) (rs : List ClaimRecord) :
    claimsOver now start stop (liveClaims now rs) = claimsOver now start stop rs := by
  simp [claimsOver]

theorem State.peer_purge (s : State) (n : StationNo) :
    s.purge.peer n = { s.peer n with claims := liveClaims s.now (s.peer n).claims } := by
  simp [State.peer, State.purge]

@[simp] theorem State.ownLoad_purge (s : State) :
    s.purge.share.ownLoad = s.share.ownLoad ∧ s.purge.share.lastLoad = s.share.lastLoad ∧
      s.purge.share.heldLoad = s.share.heldLoad ∧ (∀ c, s.purge.claimSlot c = s.claimSlot c) := by
  refine ⟨by simp [State.purge], by simp [State.purge], by simp [State.purge], fun c => ?_⟩
  cases c <;> simp [State.purge, State.claimSlot]

/-! ### Handling commands -/

/-- What holds of a state, of it with its entry marked as handled, and after each effect, holds after a handling command. -/
theorem State.handle_preserves {P : State → Prop} {s : State} {act : Entry → Option (State → State)} (h : P s)
    (ha : ∀ e f, s.toHandle = some e → act e = some f → P (f s.markHandled)) : P (s.handle act) := by
  unfold State.handle
  split
  · next he =>
    split
    · next hf => exact ha _ _ he hf
    · exact h
  · exact h

/-- The same for a TRANSPORT command. -/
theorem State.transport_preserves {P : State → Prop} {s : State} {code : Byte} {act : Byte → State → State} (h : P s)
    (hm : P s.markHandled) (ha : ∀ argument, P (act argument s.markHandled)) : P (s.transport code act) := by
  refine State.handle_preserves h fun e f _ hf => ?_
  split at hf
  · split at hf
    · cases hf
      dsimp only
      split
      · exact ha _
      · exact hm
    · cases hf
  · cases hf

end Sys2Proof.Machine
end

