-- ==== Sys2Proof/Tests/Slice0.lean ====
section
/-! SUPPORT. Tests of the model: the ill-formed commands, the worked cases of the manual on one step each, and for every
statement with hypotheses a state and operands that meet them (`witness_<name>`), clause by clause at the clause's bound. -/

open Sys2Proof Sys2Proof.Machine

set_option Elab.async false

namespace Sys2Proof.Tests

/-! ### A small station -/

/-- The key of the worked case 3.6. -/
def key : KeyRecord :=
  { number := 60, eMin := 60, gain := 140, pMin := 40, pMax := 230, iFull := 60, tPulse := 100, fSlow := 300, fFast := 80,
    pHold := 60, pCool := 20, relLead := 10, tReturn := 40, tRep := 15, enabled := true, pFloor := 51 }

def half : HalfVoicing :=
  { targets := [40, 50, 60, 80, 100, 130, 160, 200], slow := 8, fast := 64, default := 40, accent := 20 }

/-- A voicing with the figures of 3.6, station 4 the authority of the bass, and three decoded tracks. -/
def voicing : Voicing :=
  { Voicing.blank with
    splitKey := 40, bassAuthority := some 4, trebleAuthority := some 9, pedalSource := some 9, pedalDrive := some 4
    cells := 2, tOpen := 160, tClose := 80, kOpen := 3, kClose := 2, tLmin := 400, tLmax := 200, tHold := 1000
    delay := 60000, margin := 5, knots := [0, 100, 200, 300, 420, 540, 700, 900, 1023], bass := half, treble := half
    supplyLimit := 200, reserve := 10, vNom := 600, vUv := 480, vOvw := 700, vOvs := 760, pOvcap := 100, pHotcap := 90
    deglitch := 20, iTrip := 90, iOpen := 5, pedalLead := 20, tRamp := 30, pHalf := 90, pDown := 180, pShift := 150
    iFullPedal := 120
    tracks :=
      ((Voicing.blank.tracks.set 0 { cellA := 0, cellB := none, function := .note 5 }).set 1
        { cellA := 1, cellB := none, function := .level1 .bass }).set 2
        { cellA := 1, cellB := none, function := .sustain }
    keys := Vector.replicate 12 key }

/-- The station in a mode, at one second. -/
def station (m : Mode) : State :=
  { State.reset with
    now := 1000000, number := 4, mode := m, voicing := some voicing
    conv := { State.reset.conv with vMeas := 600 } }

def playing : State := station .play

/-- A record of driver 5. -/
def note (x : NoteState) (strike : Option Strike) (release : Option Time) : Note :=
  { driver := 5, onsetLine := 1017, onsetTime := 1000000, state := x, armTime := 1025000, strike, claimTag := none,
    windowEnd := none, releaseTime := release, unannounced := false, released := false, atOnce := false }

def strike : Strike := { energy := 361, duty := 107, share := 26, fireTime := 1037763 }

/-- The station with records and a stroke state of driver 5. -/
def withNotes (ns : List Note) (x : Stroke) (s : State) : State :=
  (s.setNotes ns).setKey 5 { Key.reset with stroke := x, holdCurrent := if x.driven then 15 else 0 }

/-- The station with a frame of station 9, or its own echo, in handling. -/
def handling (f : Payload) (own : Bool) (s : State) : State :=
  s.setLink
    { s.link with
      handling := some { entry := { sender := 9, payload := f, own, arrival := 990000 }, done := false } }

def entryOf (f : Payload) (own : Bool) : Entry := { sender := 9, payload := f, own, arrival := 990000 }

def converting (source : Source) (probe : Option ProbeId) (s : State) : State :=
  s.setConv { s.conv with inFlight := some { source, probe, ends := 1000000 } }

/-- The station with a damper in a state at a base duty. -/
def damper (x : PedalState) (base load : Nat) (events : List PedalEvent) (s : State) : State :=
  s.setPedal { PedalDrive.reset with state := x, base, applied := base, load, events, overRun := some 999980 } .damper

/-- What a command leaves, asked of its next state. -/
def ends (c : Instr) (s : State) (p : State → Bool) : Bool :=
  match exec c s with
  | .next t => p t
  | .fault _ => false
  | .refused _ => false

/-! ### Ill-formed commands -/

theorem test_illformed_temperature :
    WellFormed (.temperatureSample 0 216) = false ∧ WellFormed (.temperatureSample 0 (-41)) = false ∧
      WellFormed (.temperatureSample 0 215) = true := by decide

theorem test_illformed_probed :
    WellFormed (.probeConversion 0 1024) = false ∧ WellFormed (.probeConversion 0 1023) = true := by decide

theorem test_illformed_cells :
    WellFormed (.captureSweepComplete 0 []) = false ∧
      WellFormed (.captureSweepComplete 0 (List.replicate 49 0)) = false ∧
      WellFormed (.captureSweepComplete 0 (List.replicate 48 0)) = true := by decide +kernel

theorem test_illformed_reads :
    WellFormed (.storeRead 0 (List.replicate 400 0) []) = false ∧
      WellFormed (.storeRead 0 (List.replicate 399 0) [0]) = false ∧
      WellFormed (.storeRead 0 [] (List.replicate 399 0)) = true := by decide +kernel

theorem test_illformed_read_back :
    WellFormed (.attemptEnd 0 (List.replicate 84 true) ⟨true, true⟩) = false ∧
      WellFormed (.attemptEnd 0 (List.replicate 83 true) ⟨true, true⟩) = true := by decide +kernel

theorem test_illformed_frame :
    WellFormed (.frameDelivery 0 0 [true] false) = false ∧
      WellFormed (.frameDelivery 0 0 (false :: List.replicate 101 true) false) = false := by decide +kernel

/-! ### No word spells a command: the table gives no bits -/

theorem test_no_word_spells_a_command : decodeTableWord 8 0x3C = none ∧ playing.withFetchWord 8 0x3C = playing := by
  exact ⟨rfl, rfl⟩

theorem test_idle_counts_a_microsecond : step playing = .next (playing.setNow 1000001) := by rfl

/-! ### The worked cases of the manual, one step each -/

/-- 3.6: line 1017 of a segment from 1000. -/
theorem test_segment_value_3_6 :
    Segment.value { start := 1000, s0 := 800, target := 2400, rate := 40, accent := true } 1017 = 1480 := by decide

/-- 3.6, stages 2 to 8. -/
theorem test_strike_3_6 :
    computeStrike { voicing with knots := [0, 0, 0, 300, 420, 0, 0, 0, 0] } key 1025000 1000000 none (level 1480 20 (-8)) =
      ({ energy := 361, duty := 107, share := 26, fireTime := 1037763 }, false) := by decide +kernel

/-- 3.6, stage 9 after the fit to 18. -/
theorem test_reduction_3_6 :
    fittedDuty key 107 18 26 = 74 ∧
      reduceStrike voicing key 1025000 1000000 74 =
        ({ energy := 183, duty := 74, share := 18, fireTime := 1033935 }, false) ∧
      compensate voicing 560 74 = 79 := by decide +kernel

/-- 3.7: the caps at the arm event and at the fire event, and the limit of compensation. -/
theorem test_caps_3_7 :
    capAtArm key (some 90) 361 107 = (269, 90) ∧ capAtArm key (some 45) 361 107 = (60, 51) ∧
      capAtFire key (some 100) 361 107 = (323, 100) ∧ compensate voicing 300 230 = 255 := by decide +kernel

/-- 2.9 and R24: a falling segment stops at its target. -/
theorem test_segment_falls :
    Segment.value { start := 10, s0 := 100, target := 40, rate := 25, accent := false } 14 = 40 := by decide

/-- 1.10: the onset of a confirmed hole carries its first line. -/
theorem test_track_confirms :
    Track.move voicing 506 210 { decode := .opening 2, runStart := some 504, orphan := false } =
      ({ decode := .openHole, runStart := some 504, orphan := false }, some .opening) := by decide +kernel

/-- 1.9: a strobe 250 µs after the last accepted one is rejected. -/
theorem test_strobe_rejected :
    ends (.strobe 10250) (playing.setScan { playing.scan with roll := .moving, line := 41, lastStrobe := some 10000 })
      (fun t => t.scan.line = 41 && t.counters.rejectedStrobes = 1) = true := by decide +kernel

/-- 1.11: a strobe in STILL starts the roll at line 0. -/
theorem test_strobe_starts_the_roll :
    ends (.strobe 50700000) (playing.setScan { playing.scan with line := 3120 })
      (fun t => t.scan.line = 0 && t.scan.ring = [{ line := 0, time := 50700000 }] && t.scan.roll = .moving) = true := by
  decide +kernel

/-- 4.11: the stall arms a waiting note before its arm time. -/
theorem test_stall_arms :
    ends (.stall 1020000)
      (playing.setScan { playing.scan with roll := .moving, stallAt := some 1020000 } |>.setNotes [note .waiting none none])
      (fun t => t.notes.map Note.state = [.armed] && t.scan.holdOverAt = some 2020000) = true := by decide +kernel

/-- 5.11: a strike request in STRIKE is deferred to the pulse end plus T_rep and releases the sounding note then. -/
theorem test_fire_in_strike :
    ends (.fireEvent 1037763)
      (withNotes [note .armed (some strike) none, { note .sounding none none with onsetTime := 990000 }]
        (.strike 1040000 90) playing)
      (fun t => t.notes.map Note.due = [some 1040000, some 1055000] && t.counters.forcedReleases = 1) = true := by
  decide +kernel

/-- 5.11: a pulse end with no release time enters HOLD, and its hold current joins the standing load. -/
theorem test_pulse_end_holds :
    ends (.pulseEnd 1010000 5) (withNotes [note .sounding none none] (.strike 1010000 90) playing)
      (fun t => (t.key 5).stroke = .hold 60 60 && (t.key 5).holdCurrent = 15) = true := by decide +kernel

/-- R94: a current already below I_open at the entry to HOLD starts an open-load run there. -/
theorem test_hold_starts_open_run :
    ends (.pulseEnd 1010000 5) (withNotes [note .sounding none none] (.strike 1010000 90) playing)
      (fun t => (t.key 5).openRun = some 1010000) = true := by decide +kernel

/-- 5.10: with warmth the hold current is reckoned from p_cool. -/
theorem test_pulse_end_warm :
    ends (.pulseEnd 1010000 5)
      ((withNotes [note .sounding none none] (.strike 1010000 90) playing).setThermal .b
        { level := .warm, previous := none })
      (fun t => (t.key 5).stroke = .hold 20 20 && (t.key 5).holdCurrent = 5) = true := by decide +kernel

/-- 5.12: the records of a faulted key leave, and those that have not sounded are counted. -/
theorem test_overcurrent_drops :
    ends (.overcurrentDetection 1000020 5)
      ((withNotes
          [{ note .sounding none none with onsetLine := 1 }, { note .armed (some strike) none with onsetLine := 2 },
            note .waiting none none]
          (.strike 1010000 90) playing).setOverRun (some 1000000) (.key 5))
      (fun t => t.notes.isEmpty && t.counters.notesDroppedFault = 2 && t.conditionByte = 0x71) = true := by
  decide +kernel

/-- 6.7: step 10 of a ramp from 0 to 180 over 30 steps, and its standing load. -/
theorem test_ramp_step_6_7 :
    ({ d0 := 0, target := 180, start := 0, steps := 30, taken := 9 } : Ramp).duty 10 = 60 ∧
      ({ d0 := 60, target := 90, start := 0, steps := 30, taken := 14 } : Ramp).duty 15 = 75 ∧
      pedalLoad 120 (.moving { d0 := 60, target := 90, start := 0, steps := 30, taken := 0 }) 60 = 43 := by
  decide +kernel

/-- 7.12: a fifth claim merges into the record with the latest end. -/
theorem test_claim_merges_7_12 :
    recordClaim 3000000 { tag := 10, amount := 25, start := 3020000, stop := 3030000 }
      [⟨6, 20, 3001000, 3012000⟩, ⟨7, 35, 3005000, 3021000⟩, ⟨8, 15, 3010000, 3026000⟩, ⟨9, 40, 3014000, 3024000⟩] =
      [⟨6, 20, 3001000, 3012000⟩, ⟨7, 35, 3005000, 3021000⟩, ⟨10, 40, 3010000, 3030000⟩, ⟨9, 40, 3014000, 3024000⟩] := by
  decide +kernel

/-- 8.7, samples 4 and 5: the second bad sample begins hold-off and sets WARN and SUPPLY. -/
theorem test_sag_8_7 :
    ends (.supplySample 1000000 460)
      ((converting .supply none playing).setProt { playing.prot with uv := { present := false, run := true } })
      (fun t => t.holdOff && t.conditionByte = 0x6C) = true := by decide +kernel

/-- 8.7, sample 8: a sample inside the margin breaks a recovery run. -/
theorem test_margin_8_7 :
    Condition.assess { present := true, run := true } (482 < 480) (480 + 4 ≤ 482) = { present := true, run := false } := by
  decide

/-- 8.8: from WARM, 124 °C indicates WARM still, and 104 °C NORMAL. -/
theorem test_indicated :
    indicated .warm 124 = .warm ∧ indicated .warm 104 = .normal ∧ indicated .hot 124 = .warm ∧
      indicated .normal 161 = .shutdown := by decide

/-- 8.6: a supply sample that falls due at an idle converter takes 60 µs after another source. -/
theorem test_sample_due_8_6 :
    ends (.sampleDue 1000000)
      (playing.setConv { playing.conv with schedule := some { due := 1000000, phase := 0 } })
      (fun t => t.conv.inFlight = some { source := .supply, probe := none, ends := 1000060 }) = true := by
  decide +kernel

/-- 9.3: a clean frame read from its bits. -/
theorem test_frame_read :
    readFrame (encodeFrame 5 (.claim 3 false false 90 15 30)) = .good 5 (.claim 3 false false 90 15 30) := by
  decide +kernel

/-- R157: the check of no bits is the register's start value. -/
theorem test_check_start : checkOf [] = 0xFFFF := by decide

/-- 9.10: the third objection, from a count of 31, mutes the station. -/
theorem test_objection_mutes :
    Link.objected { State.reset.link with objectionCount := 31 } =
      { State.reset.link with objectionCount := 32, muted := true } := by decide +kernel

/-- R158: a start bit of another station makes the station a receiver, and its ready frame waits. -/
theorem test_start_bit_receives :
    ends (.attemptStart ⟨1000000, true⟩)
      ((playing.setLink { playing.link with line := .idle }).placeFrame .notice (some (.notice 0x60 1)))
      (fun t => t.link.line = .receiving && t.link.onLine.isNone && t.chosen.isNone) = true := by decide +kernel

/-- 9.11: a frame of another station finds no place below the 24th. -/
theorem test_intake_lost :
    ends (.frameDelivery 1000000 0 (encodeFrame 8 (.load 40)) false)
      (playing.setLink
        { playing.link with
          line := .idle, intake := List.replicate 23 (entryOf (.load 1) false)
          handling := some { entry := entryOf (.load 1) false, done := false } })
      (fun t => t.link.intake.length = 23 && t.counters.intakeLost = 1 && t.conditionByte = 0x62) = true := by
  decide +kernel

/-- 10.5: a STOP with a key in HOLD takes it to RETURN and queues a NOTICE of WINDDOWN with cause 1. -/
theorem test_stop_10_5 :
    ends (.stop 1000000)
      (handling (.transport 2 255 0) false (withNotes [note .sounding none none] (.hold 60 60) playing))
      (fun t => t.mode = .winddown && (t.key 5).stroke = .returning 1000000 && t.notes.isEmpty &&
        (t.slot .notice).frame = some (.notice 0x80 1)) = true := by decide +kernel

/-- 10.6: a probe of `late strikes` is answered at once. -/
theorem test_probe_10_6 :
    ends (.probe 12000000)
      (handling (.probe 4 20 0) false (playing.setCounters (playing.counters.set 3 .lateStrikes)))
      (fun t => (t.slot .reply).frame = some (.reply 9 20 0x60 3)) = true := by decide +kernel

/-- R39: TRIM −100 is clamped to −64. -/
theorem test_trim_clamps :
    ends (.trim 1000000) (handling (.transport 4 4 0x9C) false playing) (fun t => t.shade.trim = -64) = true := by
  decide +kernel


/-! ### States and operands that meet the statements' hypotheses -/

/-- An image of the right length and format. -/
def image : List Byte := 0x3C :: 0x05 :: List.replicate 397 0

theorem witness_StepTakesTheFrontCommand :
    ({ playing with pending := [.stall 5, .lineIdle 6] } : State).pending = [.stall 5, .lineIdle 6] := by rfl

theorem witness_RestartHasTheEffectOfReset :
    let s := handling (.transport 5 255 0) false playing
    let u := fun m => (station m).setLink { (station m).link with line := .idle }
    (s.toHandle = some (entryOf (.transport 5 255 0) false) ∧ s.mode.active = true ∧ s.addressed 255 = true) ∧
      ((u .unvoiced).mode = .unvoiced ∧ (u .unvoiced).addressed 4 = true ∧ (u .unvoiced).link.line ≠ .unread ∧
        (u .unvoiced).link.onLine = none) ∧
      ((u .loading).mode = .loading ∧ (u .loading).addressed 4 = true ∧ (u .loading).link.line ≠ .unread ∧
        (u .loading).link.onLine = none) := by
  decide +kernel

theorem witness_StoreReadLeavesLoading :
    State.reset.mode = .loading ∧ 399 ≤ image.length ∧ imageByte image 0 = 0x3C ∧ imageByte image 1 = 0x05 ∧
      (State.reset.slot .load).state = .empty ∧ (image.take 398).length < 399 ∧
      imageByte (List.replicate 399 0) 0 ≠ 0x3C := by decide +kernel

/-- An image with thresholds, a nominal and an undervoltage figure, and driver 0 enabled or not. -/
def imageOf (opens closes : Byte) (nomHigh nomLow uvHigh uvLow enabled : Byte) : List Byte :=
  ((((((image.set 0x08 opens).set 0x09 closes).set 0x41 nomHigh).set 0x42 nomLow).set 0x43 uvHigh).set 0x44 uvLow).set
    0xB1 enabled

theorem witness_StoreParametersAreChecked :
    let a := imageOf 81 80 0 100 0 1 0
    let b := imageOf 254 254 3 0xE8 3 0xFE 1
    (imageByte a 0x09 < imageByte a 0x08 ∧ imageByte b 0x08 ≤ imageByte b 0x09 ∧ imageByte b 0x09 ≤ 254) ∧
      (100 ≤ imageWord a 0x41 ∧ imageWord a 0x41 ≤ 1000 ∧ 1 ≤ imageWord a 0x43 ∧ imageWord a 0x43 ≤ 1022) ∧
      (100 ≤ imageWord b 0x41 ∧ imageWord b 0x41 ≤ 1000 ∧ 1 ≤ imageWord b 0x43 ∧ imageWord b 0x43 ≤ 1022) ∧
      ((readKey b 0).enabled = true ∧ (readKey a 0).enabled = false) ∧ (readTrack a 1 3).cellB = some 0 ∧
      (readTrack (a.set 0x59 0x1B) 1 0).function = .note 11 := by decide +kernel

theorem witness_StoreParametersAreChecked_ranges :
    let a := (image.set 0x02 89).set 0x06 16
    let b := (((image.set 0x02 88).set 0x06 15).set 0x0C 0x13).set 0x0D 0x88
    let c := (b.set 0x0D 0x89).set 0x0C 0x13
    (imageWord image 0x0C < 100 ∧ imageWord b 0x0C = 5000 ∧ 5000 < imageWord c 0x0C) ∧
      (88 < imageByte a 0x02 ∧ imageByte b 0x02 ≤ 88 ∧ imageByte a 0x07 < 1) ∧
      (16 ≤ imageByte a 0x06 ∧ (15 : StationNo).toNat = imageByte b 0x06) := by decide +kernel

theorem witness_StoreParametersAreChecked_tracks :
    let t := [1, 1, 0x1B, 0, 2, 0x1B, 2, 0, 0x80, 0, 0, 0xB0, 0, 0, 0x1C, 1, 0, 0xA0, 0, 0, 0x21]
    let m := (image.take 0x57).set 0x07 2 ++ t ++ List.replicate 291 0
    let v := readVoicing m
    let code := fun i => imageByte m (0x59 + 3 * i) / 16
    let argument := fun i => imageByte m (0x59 + 3 * i) % 16
    m.length = 399 ∧ v.cells = 2 ∧
      (imageByte m 0x57 < v.cells ∧ code 0 = 1 ∧ argument 0 = 11 ∧ imageByte m 0x58 < v.cells) ∧
      (code 1 = 1 ∧ argument 1 = 11 ∧ v.tracks[0].function = .note 11 ∧ v.cells ≤ imageByte m 0x5B) ∧
      v.cells ≤ imageByte m 0x5D ∧ 11 ≤ code 3 ∧ (code 4 = 1 ∧ 12 ≤ argument 4) ∧ code 5 = 10 ∧ code 7 = 0 ∧
      (code 6 = 2 ∧ (argument 6).testBit 0 = true) := by decide +kernel

/-- The roll moving, its last strobe just outside the window. -/
def moving (sweep : Option Sweep) (held : Option HeldStrobe) : State :=
  playing.setScan
    { playing.scan with
      roll := .moving, line := 40, lastStrobe := some 999600, sweep, held, stallAt := some 1000000
      ring := [{ line := 40, time := 999600 }] }

def sweep : Sweep := { line := 39, time := 999000, taken := 0, repeats := 0 }

def heldStrobe : HeldStrobe := { line := 40, time := 999600, repeats := 0 }

theorem windowOpen_moving (x : Option Sweep) (y : Option HeldStrobe) : (moving x y).windowOpen 1000000 := by
  intro last h
  obtain rfl : (999600 : Time) = last := Option.some.inj h
  have figure : (voicing.tLmin : Int) ≤ timeDiff 1000000 999600 := by decide +kernel
  exact figure

theorem witness_StrobesAreTakenByTheWindow :
    State.reset.mode.active = false ∧
      (let s := playing.setScan { playing.scan with lastStrobe := some 999601 }
       s.mode.active = true ∧ s.scan.lastStrobe = some 999601 ∧ timeDiff 1000000 999601 < (s.store.tLmin : Int)) ∧
      (moving none none).windowOpen 1000000 :=
  ⟨by decide +kernel, by decide +kernel, windowOpen_moving _ _⟩

theorem witness_AcceptedStrobeNumbersTheNextLine :
    (moving none none).mode.active = true ∧ (moving none none).windowOpen 1000000 ∧
      (moving none none).scan.roll = .moving ∧ (moving none none).scan.sweep = none ∧
      ((moving (some sweep) none).windowOpen 1000000 ∧ (moving (some sweep) none).scan.sweep = some sweep ∧
        (moving (some sweep) none).scan.held = none) ∧
      ((moving (some sweep) (some heldStrobe)).windowOpen 1000000 ∧
        (moving (some sweep) (some heldStrobe)).scan.sweep = some sweep ∧
        (moving (some sweep) (some heldStrobe)).scan.held = some heldStrobe) :=
  ⟨rfl, windowOpen_moving _ _, rfl, rfl, ⟨windowOpen_moving _ _, rfl, rfl⟩, windowOpen_moving _ _, rfl, rfl⟩

theorem witness_AcceptedStrobeNumbersTheNextLine_pedals :
    let e : PedalEvent := { position := .down, line := 41, action := none }
    let f : PedalEvent := { position := .half, line := 40, action := some 1005000 }
    let s := fun (lead : Nat) (events : List PedalEvent) =>
      { (moving none none).setPedal { PedalDrive.reset with events } .damper with
        voicing := some { voicing with pedalLead := lead } }
    let action := fun lead => shifted 1000000 ((s lead []).store.delay - 1000 * (s lead []).store.pedalLead)
    (∀ y ∈ ((s 20 [f]).pedal .damper).events, y.line = (s 20 [f]).scan.line + 1 → y.action ≠ none) ∧
      (reached 1000000 (action 59) = false ∧ ((s 59 [e]).pedal .damper).events = [e] ∧
        e.line = (s 59 [e]).scan.line + 1 ∧ e.action = none ∧
        (∀ y ∈ ((s 59 [f, e]).pedal .damper).events, y.line = (s 59 [f, e]).scan.line + 1 → y.action = none)) ∧
      (reached 1000000 (action 60) = true ∧ ((s 60 [e]).pedal .damper).events = [e]) ∧
      (((s 60 [f, e]).pedal .damper).events = [f, e] ∧ f.line ≠ (s 60 [f, e]).scan.line + 1) := by decide +kernel

/-- The station as the pedal source as well. -/
def sourcing (s : State) : State := { s with voicing := some { voicing with pedalSource := some 4 } }

theorem witness_AcceptedStrobeInStillStartsTheRoll :
    let s := playing.setTracks
      (((playing.tracks.set 0 { decode := .opening 2, runStart := some 7, orphan := false }).set 1
        { decode := .closing 1, runStart := some 8, orphan := true }).set 2
        { decode := .openHole, runStart := none, orphan := false })
    let g : Segment := { start := 30, s0 := 640, target := 800, rate := 8, accent := false }
    let p := sourcing (playing.setHalf { HalfShade.reset with generator := some g } .bass)
    (s.mode.active = true ∧ s.windowOpen 1000000 ∧ s.scan.roll = .still) ∧
      (s.tracks[0].decode = .opening 2 ∧ s.tracks[1].decode = .closing 1 ∧ s.tracks[2].decode = .openHole ∧
        s.tracks[3].decode = .closed ∧ s.generates .treble = false ∧ s.isPedalSource = false ∧
        s.generates .bass = true ∧ (s.half .bass).generator = none) ∧
      (p.mode.active = true ∧ p.windowOpen 1000000 ∧ p.scan.roll = .still) ∧
      (p.generates .bass = true ∧ (p.half .bass).generator = some g ∧ p.isPedalSource = true ∧ p.isPedalDrive = true ∧
        reached 1000000 (shifted 1000000 (p.store.delay - 1000 * p.store.pedalLead)) = false) := by
  refine ⟨⟨by decide +kernel, ?_, by decide +kernel⟩, by decide +kernel, ⟨by decide +kernel, ?_, by decide +kernel⟩,
    by decide +kernel⟩ <;> intro last h <;> cases h

theorem witness_TrackDecodingFollowsTheTable :
    let one := { voicing with kOpen := 1, kClose := 1 }
    let three := { voicing with kClose := 3 }
    (159 < voicing.tOpen ∧ voicing.tOpen ≤ 160 ∧ 1 < voicing.kOpen ∧ one.kOpen = 1) ∧
      (1 + 1 < voicing.kOpen ∧ 2 + 1 = voicing.kOpen) ∧
      (voicing.tClose < 81 ∧ 80 ≤ voicing.tClose ∧ 1 < voicing.kClose ∧ one.kClose = 1) ∧
      (1 + 1 < three.kClose ∧ 1 + 1 = voicing.kClose) := by decide +kernel

theorem witness_CaptureSweepDecodesItsLine :
    let x : Sweep := { line := 39, time := 999000, taken := 0, repeats := 2 }
    (moving (some sweep) (some heldStrobe)).scan.sweep = some sweep ∧
      sweep.taken + ([200, 10] : List Byte).length = (moving (some sweep) (some heldStrobe)).store.cells ∧
      (moving none none).store.function 3 = .unused ∧ (moving none none).store.function 0 ≠ .unused ∧
      ((moving (some x) none).scan.sweep = some x ∧
        x.taken + ([200, 10] : List Byte).length = (moving (some x) none).store.cells) := by decide +kernel

/-- A sweep of line 39 in flight with one track in a decode state, on a ring from line 37. -/
def sweeping (i : Fin 24) (x : Track) (s : State) : State :=
  (s.setScan
    { playing.scan with
      roll := .moving, line := 40, sweep := some sweep
      ring := [{ line := 37, time := 990000 }, { line := 39, time := 999000 }, { line := 40, time := 999600 }] }).setTracks
    (playing.tracks.set i x)

def runOf (d : Decode) (line : Line) : Track := { decode := d, runStart := some line, orphan := false }

theorem witness_OnsetsAndClosingsReachTheList :
    let s := sweeping 0 (runOf (.opening 2) 37) playing
    let old := sweeping 0 (runOf (.opening 2) 36) playing
    let full := s.setNotes (List.replicate 40 (note .waiting none (some 1000001)))
    let standby := sweeping 0 (runOf (.opening 2) 37) (station .standby)
    let close := sweeping 0 (runOf (.closing 1) 37) (withNotes [note .sounding (some strike) none] (.hold 60 60) playing)
    let late := close.setScan { close.scan with ring := [{ line := 37, time := 950000 }] }
    (s.scan.sweep = some sweep ∧ sweep.repeats = 0 ∧ sweep.taken + ([200, 10] : List Byte).length = s.store.cells ∧
        s.store.function 0 = .note 5 ∧ s.tracks[0].orphan = false ∧ (∀ m ∈ s.notes, m.atOnce = false) ∧
        ((s.moveTrack 39 [200, 10] 0).2 = some .opening ∧ ∀ j : Fin 24, j ≠ 0 → (s.moveTrack 39 [200, 10] j).2 = none) ∧
        (s.moveTrack 39 [200, 10] 0).1.runStart = some 37 ∧ s.scan.ringTime 37 = .at 990000) ∧
      (s.mode = .play ∧ s.scan.roll = .moving ∧ s.notes.length < 40 ∧
        reached 1000000 (shifted 990000 (s.store.delay - 100 * (s.store.key 5).fSlow - 1000 * s.store.margin)) = false) ∧
      (old.scan.ringTime 36 = .tooOld ∧ old.scan.ring.head? = some { line := 37, time := 990000 } ∧
        (old.moveTrack 39 [200, 10] 0).1.runStart = some 36) ∧
      (full.mode = .play ∧ 40 ≤ full.notes.length ∧ ∀ m ∈ full.notes, m.atOnce = false) ∧ standby.mode ≠ .play ∧
      ((close.moveTrack 39 [10, 10] 0).2 = some .closing ∧
        (∀ j : Fin 24, j ≠ 0 → (close.moveTrack 39 [10, 10] j).2 = none) ∧
        (close.moveTrack 39 [10, 10] 0).1.runStart = some 37 ∧ (∀ m ∈ close.notes, m.atOnce = false) ∧
        reached 1000000 (shifted 990000 (close.store.delay - 1000 * (close.store.key 5).relLead)) = false) ∧
      (late.scan.ringTime 37 = .at 950000 ∧
        reached 1000000 (shifted 950000 (late.store.delay - 1000 * (late.store.key 5).relLead)) = true ∧
        (late.key 5).stroke = .hold 60 60 ∧
        ∃ m ∈ late.notes, m.driver = 5 ∧ m.releaseTime = none ∧ m.state = .sounding ∧ m.released = false) := by
  decide +kernel

theorem witness_ControlEdgesMakeFrames :
    let s := sweeping 1 (runOf (.opening 2) 37) playing
    let g : Segment := { start := 30, s0 := 640, target := 800, rate := 8, accent := false }
    let made := s.setHalf { HalfShade.reset with generator := some g } .bass
    let other := { s with voicing := some { voicing with bassAuthority := some 9 } }
    let p := sourcing (sweeping 2 (runOf (.opening 2) 37) playing)
    let heard := { p with voicing := some { voicing with pedalSource := some 4, pedalDrive := some 9 } }
    (s.scan.sweep = some sweep ∧ sweep.repeats = 0 ∧ sweep.taken + ([10, 200] : List Byte).length = s.store.cells ∧
        (s.moveTrack 39 [10, 200] 1).2 = some .opening ∧
        (∀ j : Fin 24, j ≠ 1 → (s.moveTrack 39 [10, 200] j).2 = none) ∧
        (s.store.function 1).expressionHalf = some .bass ∧ s.store.authority .bass = some s.number ∧
        (s.half .bass).generator = none ∧ other.store.authority .bass ≠ some other.number) ∧
      ((made.half .bass).generator = some g ∧
        ends (.captureSweepComplete 1000000 [10, 200]) made (fun t => g.params = t.shadeParams .bass) = true ∧
        ends (.captureSweepComplete 1000000 [10, 200])
          (made.setHalf { HalfShade.reset with generator := some { g with target := 640 } } .bass)
          (fun t => ({ g with target := 640 } : Segment).params ≠ t.shadeParams .bass) = true) ∧
      ((p.moveTrack 39 [10, 200] 2).2 = some .opening ∧
        (∀ j : Fin 24, j ≠ 2 → (p.moveTrack 39 [10, 200] j).2 = none) ∧ p.store.function 2 = .sustain ∧
        p.isPedalSource = true ∧ p.isPedalDrive = true ∧ p.scan.ringTime 39 = .at 999000 ∧
        reached 1000000 (shifted 999000 (p.store.delay - 1000 * p.store.pedalLead)) = false ∧
        (p.pedal .damper).events = [] ∧ (p.pedal .shift).events = [] ∧ p.pedals.queue = [] ∧
        heard.isPedalSource = true ∧ heard.isPedalDrive = false ∧ s.isPedalSource = false) := by decide +kernel

/-- With one track that reads open, its function alone reads open. -/
theorem witness_ControlEdgesMakeFrames_readings :
    let s := playing.setTracks (playing.tracks.set 2 (runOf (.closing 1) 37))
    ∀ f : TrackFunction, decide (f = .sustain) = true ↔
      ∃ j : Fin 24, s.store.function j = f ∧
        (s.tracks[j].decode = .openHole ∨ ∃ n, s.tracks[j].decode = .closing n) := by
  intro s f
  have others : ∀ j : Fin 24, j ≠ 2 → s.tracks[j].decode = .closed := by decide +kernel
  constructor
  · intro h
    obtain rfl := of_decide_eq_true h
    exact ⟨2, by decide +kernel, .inr ⟨1, by decide +kernel⟩⟩
  · rintro ⟨j, rfl, h⟩
    by_cases hj : j = 2
    · subst hj
      decide +kernel
    · rw [others j hj] at h
      rcases h with h | ⟨n, h⟩ <;> cases h

theorem witness_ControlEdgesMakeFrames_busy :
    let s := (sweeping 1 (runOf (.opening 2) 37) playing).moveSlot (.shade .bass) .sending
    let full := s.setHalf { HalfShade.reset with queue := [.keep 1] } .bass
    let p := (sourcing (sweeping 2 (runOf (.opening 2) 37) playing)).moveSlot .pedal .queued
    (s.slot (.shade .bass)).state.free = false ∧ (full.half .bass).queue ≠ [] ∧
      (s.half .bass).timeline.getLast? = none ∧ (p.slot .pedal).state.free = false ∧ p.isPedalDrive = true ∧
      (pedalQueueAfter p.pedals.queue [{ pedal := .damper, position := .down, line := 39 }]).2 = 0 := by decide +kernel

theorem witness_StallArmsEveryWaitingNote :
    let n := { note .waiting none none with onsetLine := 39 }
    let x := fun k => ((moving none none).setNotes [n]).setKey 5 { Key.reset with stroke := k }
    let g : Line → Segment := fun line => { start := line, s0 := 640, target := 800, rate := 8, accent := false }
    let h := (x .rest).setHalf { HalfShade.reset with timeline := [g 39, g 40, g 41] } .treble
    ((x .rest).scan.roll = .moving ∧ (x .rest).scan.stallAt = some 1000000 ∧ reached 1000000 1000000 = true) ∧
      ((x .rest).notes = [n] ∧ n.state = .waiting ∧ (∀ m ∈ (x .rest).notes, m.same n = true → m = n) ∧
        ((x .rest).key 5).stroke ≠ .faulted ∧ (x .rest).isShut (clusterOf 5) = false ∧ (x .rest).holdOff = false) ∧
      ((x .faulted).notes = [n] ∧ ((x .faulted).key 5).stroke = .faulted) ∧
      (h.store.halfOf 5 = .treble ∧ h.notes = [n] ∧ h.scan.stallAt = some 1000000 ∧
        ends (.stall 1000000) h (fun t => (t.half .treble).timeline = [g 40, g 41]) = true) := by decide +kernel

theorem witness_HoldOverEndReleasesWhatIsHeld :
    let s := (withNotes [note .sounding none none] (.hold 60 60) playing).setScan
      { playing.scan with holdOverAt := some 1000000 }
    let s := s.setTracks (s.tracks.set 0 { decode := .openHole, runStart := none, orphan := false })
    s.scan.roll = .still ∧ s.scan.holdOverAt = some 1000000 ∧ reached 1000000 1000000 = true ∧
      s.store.function 0 = .note 5 ∧ s.tracks[0].readsOpen = true := by decide +kernel

/-- The station in STILL with a hold-over that ends now, its damper HOLDING. -/
def heldOver (m : Mode) (ns : List Note) (x : Stroke) : State :=
  (withNotes ns x (damper .holding 180 85 [] (station m))).setScan { playing.scan with holdOverAt := some 1000000 }

theorem witness_HoldOverEndReleasesWhatIsHeld_notes :
    let n := note .sounding (some strike) none
    let w := note .armed (some strike) none
    let h := heldOver .play [n, { w with onsetLine := 3 }] (.hold 60 60)
    let p := heldOver .play [n] (.strike 1010000 90)
    let r := heldOver .play [{ n with releaseTime := some 1000001 }] (.hold 60 60)
    let full := heldOver .play (List.replicate 40 n) (.hold 60 60)
    ((∀ m ∈ h.notes, m.atOnce = false) ∧ h.notes.length ≤ 40 ∧ h.scan.roll = .still ∧
        h.scan.holdOverAt = some 1000000 ∧ (h.key 5).stroke = .hold 60 60 ∧
        (∃ m ∈ h.notes, m.driver = 5 ∧ m.state = .sounding ∧ m.releaseTime = none ∧ m.released = false) ∧
        ∃ m ∈ h.notes, m.state ≠ .sounding ∧ m.releaseTime = none ∧ ∀ m' ∈ h.notes, m'.same m = true → m' = m) ∧
      ((p.key 5).stroke = .strike 1010000 90 ∧ p.notes = [n] ∧ n.releaseTime = none ∧ n.state = .sounding) ∧
      ((r.key 5).stroke = .hold 60 60 ∧
        (∀ m ∈ r.notes, m.driver = 5 → m.state = .sounding → m.releaseTime ≠ none) ∧ (r.key 4).stroke = .rest) ∧
      ((∀ m ∈ full.notes, m.atOnce = false) ∧ full.notes.length = 40) := by decide +kernel

theorem witness_HoldOverEndReleasesWhatIsHeld_pedals :
    let s := heldOver .winddown [] .rest
    let f := (heldOver .play [] .rest).setPedal { PedalDrive.reset with state := .faulted } .damper
    (s.mode = .winddown ∧ (s.pedal .damper).state ≠ .faulted ∧ s.isShut .p = false ∧ s.holdOff = false ∧
        (s.pedal .damper).state = .holding ∧ (s.pedal .damper).base ≠ 0 ∧ 0 < s.store.tRamp) ∧
      (({ s with voicing := some { voicing with tRamp := 0 } } : State).store.tRamp = 0) ∧
      (f.pedal .damper).state = .faulted ∧ ((s.pedal .shift).state = .resting ∧ (s.pedal .shift).base = 0) ∧
      ¬ ((station .standby).mode = .play ∨ (station .standby).mode = .winddown) := by decide +kernel

/-- A segment of the bass. -/
def segment : Segment := { start := 30, s0 := 640, target := 800, rate := 8, accent := false }

/-- The bass half at a keep count of 16. -/
def keeping (g : Option Segment) : State :=
  playing.setHalf { HalfShade.reset with generator := g, keepCount := 16 } .bass

theorem witness_KeepCountQueuesAKeep :
    (keeping none).generates .bass = true ∧ 16 ≤ ((keeping none).half .bass).keepCount ∧
      ((keeping none).half .bass).generator = none ∧
      ((keeping (some segment)).generates .bass = true ∧ 16 ≤ ((keeping (some segment)).half .bass).keepCount ∧
        ((keeping (some segment)).half .bass).generator ≠ none ∧ ((keeping (some segment)).half .bass).queue = [] ∧
        ((keeping (some segment)).slot (.shade .bass)).state.free = true) ∧
      (((keeping (some segment)).placeFrame (.shade .bass) (some (.keep .bass 3))).generates .bass = true ∧
        16 ≤ (((keeping (some segment)).placeFrame (.shade .bass) (some (.keep .bass 3))).half .bass).keepCount ∧
        (((keeping (some segment)).placeFrame (.shade .bass) (some (.keep .bass 3))).slot (.shade .bass)).state.free =
          false) := by decide +kernel

theorem witness_KeepCountQueuesAKeep_busy :
    let s := (keeping (some segment)).moveSlot (.shade .bass) .sending
    let g : Line → ShadeFrame := fun line => .segment { segment with start := line }
    s.generates .bass = true ∧ 16 ≤ (s.half .bass).keepCount ∧ (s.half .bass).generator ≠ none ∧
      (s.slot (.shade .bass)).state.free = false ∧
      shadeQueueAfter (.keep 9) [g 1, .keep 3] = ([g 1, .keep 9], false) ∧
      shadeQueueAfter (.keep 9) [g 1, g 2, g 3] = ([g 1, g 2, g 3, .keep 9], false) ∧
      shadeQueueAfter (.keep 9) [g 1, g 2, g 3, g 4] = ([g 2, g 3, g 4, .keep 9], true) := by decide +kernel

/-! ### The note list -/

/-- The strike that the small station computes for its waiting note. -/
def armed : Strike := { energy := 137, duty := 65, share := 16, fireTime := 1032946 }

/-- The strike of the same note with its arm event at 1100000. -/
def armedLate : Strike := { armed with fireTime := 1100000 }

theorem witness_ArmEventComputesAndClaims :
    let s := withNotes [note .waiting none none] .rest playing
    let n := note .waiting none none
    let a : ShadeAnswer := { value := 640, accent := false, projected := true }
    s.ArmsAs 1025000 n a armed false ∧ s.ArmsAs 1100000 n a armedLate true ∧ reached 1025000 armed.fireTime = false ∧
      (s.joinSlot armed.fireTime (windowEndOf (s.store.key 5) armed.fireTime) = none ∧ s.freeSlot = some .a ∧
        armed.share ≤
          (s.setNow 1025000).headroom armed.fireTime (windowEndOf (s.store.key 5) armed.fireTime) (some .a)) ∧
      (s.joinSlot armedLate.fireTime (windowEndOf (s.store.key 5) armedLate.fireTime) = none ∧
        armedLate.share ≤
          (s.setNow 1100000).headroom armedLate.fireTime (windowEndOf (s.store.key 5) armedLate.fireTime) (some .a) ∧
        (s.key 5).stroke = .rest ∧ s.dropsStrike 5 = false ∧ n.releaseTime = none) := by
  unfold State.ArmsAs State.settled
  decide +kernel

/-- A claim of slot CLAIM-A over a window, QUEUED. -/
def claimed (amount : Nat) (start stop : Time) (x : SlotState) (s : State) : State :=
  (s.setClaimSlot
      { counter := 1, claim := some { tag := 1, amount, windowStart := start, windowEnd := stop, overdrawn := false, late := false } }
      .a).setSlot (.claim .a) { state := x, frame := none, queuedAt := 1000000, attempts := 0, cancel := none }

/-- The station with a peer whose standing load leaves a headroom. -/
def loaded (load : Nat) (s : State) : State := s.setPeer 9 { present := true, load, lastHeard := 1000000, claims := [] }

theorem witness_ClaimSharesAreJoinedAndFitted :
    let n := note .waiting none none
    let s := withNotes [n] .rest playing
    let a : ShadeAnswer := { value := 640, accent := false, projected := true }
    let stop := windowEndOf key armed.fireTime
    let j := claimed 20 1020000 (armed.fireTime - 2000) .queued s
    let u := fun load => loaded load
      ((claimed 20 1000 2000 .sending s).setSlot (.claim .b) { OutSlot.reset with state := .sending })
    let member : Note := { note .armed (some strike) none with claimTag := some { slot := .a, tag := 1 } }
    let f := fun load => loaded load (claimed 26 1037763 1062763 .queued (withNotes [member] .rest playing))
    j.ArmsAs 1025000 n a armed false ∧ (u 0).ArmsAs 1025000 n a armed false ∧ reached 1025000 armed.fireTime = false ∧
      (j.joinSlot armed.fireTime stop = some .a ∧ stop = windowEndOf (j.store.key 5) armed.fireTime ∧
        20 + armed.share ≤ (j.setNow 1025000).headroom 1020000 stop (some .a)) ∧
      ((u 0).joinSlot armed.fireTime stop = none ∧ (u 0).freeSlot = none ∧
        armed.share ≤ ((u 0).setNow 1025000).headroom armed.fireTime stop none) ∧
      ((u 175).ArmsAs 1025000 n a armed false ∧ (u 175).joinSlot armed.fireTime stop = none ∧ (u 175).freeSlot = none ∧
        ((u 175).setNow 1025000).headroom armed.fireTime stop none = 15 ∧ (15 : Nat) < armed.share ∧
        max (key.pFloor) (armed.duty * 15 / armed.share) = 60 ∧ (60 : Nat) < armed.duty ∧
        (reduceStrike voicing key 1025000 1000000 60).2 = false ∧
        reached 1025000 (reduceStrike voicing key 1025000 1000000 60).1.fireTime = false) ∧
      ((f 164).headroom 1037763 1062763 (some .a) = 26 ∧ ((f 164).claimSlot .a).claim.map Claim.amount = some 26) ∧
      ((f 172).headroom 1037763 1062763 (some .a) = 18 ∧ member ∈ (f 172).notes ∧ (f 172).isMember .a member = true ∧
        max key.pFloor (strike.duty * 18 / 26) = 74 ∧ (74 : Nat) < strike.duty) := by
  unfold State.ArmsAs State.settled
  decide +kernel

/-- A slot 2,000 µs before the window is joinable, and one that is 2,001 µs before it is not. -/
theorem witness_ClaimSharesAreJoinedAndFitted_joins :
    let s := withNotes [note .waiting none none] .rest playing
    let stop := windowEndOf key armed.fireTime
    let j := (claimed 20 1020000 (armed.fireTime - 2000) .queued s).setSlot (.claim .b)
      { OutSlot.reset with state := .queued, queuedAt := 1000000 }
    let b := j.setClaimSlot
      { counter := 2, claim := some
          { tag := 2, amount := 20, windowStart := 1020000, windowEnd := armed.fireTime - 2001, overdrawn := false
            late := false } } .b
    let other := b.setClaimSlot
      { counter := 2, claim := some
          { tag := 2, amount := 20, windowStart := stop + 2000, windowEnd := stop + 9000, overdrawn := false
            late := false } } .b
    ((b.slot (.claim .a)).state = .queued ∧ ∃ w, (b.claimSlot .a).claim = some w ∧
        timeDiff w.windowStart stop ≤ 2000 ∧ timeDiff armed.fireTime w.windowEnd = 2000) ∧
      ((b.slot (.claim .b)).state = .queued ∧ ∃ w, (b.claimSlot .b).claim = some w ∧
        ¬ timeDiff armed.fireTime w.windowEnd ≤ 2000) ∧
      b.joinSlot armed.fireTime stop = some .a ∧
      ((other.slot (.claim .b)).queuedAt = (other.slot (.claim .a)).queuedAt ∧
        other.joinSlot armed.fireTime stop = some .a) := by
  refine ⟨⟨by decide +kernel, _, rfl, by decide +kernel⟩, ⟨by decide +kernel, _, rfl, by decide +kernel⟩,
    by decide +kernel⟩

theorem witness_EventsDropWhatCannotSound :
    let n := note .waiting none none
    let w := withNotes [n] .faulted playing
    let v := (withNotes [n] .rest playing).setThermal .b { level := .shutdown, previous := none }
    let a := note .armed (some strike) none
    let s := withNotes [a] .faulted playing
    let h := (withNotes [a] .rest playing).setThermal .b { level := .shutdown, previous := none }
    let o := (withNotes [a] .rest playing).setProt { playing.prot with uv := { present := true, run := false } }
    ((∀ m ∈ w.notes, m.atOnce = false) ∧ (w.setNow 1025000).nextDue = some n ∧ n.state = .waiting ∧
        (w.key 5).stroke = .faulted) ∧
      ((v.setNow 1025000).nextDue = some n ∧ v.isShut (clusterOf 5) = true) ∧
      ((s.setNow 1037763).nextDue = some a ∧ a.state = .armed ∧ a.strike = some strike ∧ (s.key 5).stroke = .faulted ∧
        ∀ m ∈ s.notes, m.atOnce = false) ∧
      ((h.setNow 1037763).nextDue = some a ∧ h.isShut (clusterOf 5) = true) ∧
      ((o.setNow 1037763).nextDue = some a ∧ o.holdOff = true) := by decide +kernel

theorem witness_FireEventStrikesTheKey :
    let n := note .armed (some strike) none
    let s := withNotes [n] .rest playing
    let r := withNotes [n] (.returning 1022763) playing
    (∀ m ∈ s.notes, m.atOnce = false) ∧ (s.setNow 1037763).nextDue = some n ∧ n.strike = some strike ∧
      n.releaseTime = none ∧ s.dropsStrike 5 = false ∧ (s.key 5).stroke = .rest ∧
      capAtFire (s.store.key 5) (s.capFor 5) strike.energy strike.duty = (361, 107) ∧
      ((r.setNow 1037763).nextDue = some n ∧ (r.key 5).stroke = .returning 1022763 ∧
        reached 1037763 (after 1022763 (1000 * (r.store.key 5).tRep)) = true) := by decide +kernel

theorem witness_FireEventStrikesTheKey_caps :
    let hot := playing.setThermal .b { level := .hot, previous := none }
    let both := hot.setProt { hot.prot with ovw := { present := true, run := false } }
    (playing.prot.ovw.present = false ∧ hot.capFor 5 = some 90 ∧ both.prot.ovw.present = true ∧ both.capFor 5 = some 90) ∧
      ((107 : Nat) ≤ 107 ∧ (106 : Nat) < 107 ∧ key.pFloor ≤ 107) ∧
      (max 479 voicing.vUv = 480 ∧ max 600 voicing.vUv = voicing.vNom ∧ 0 < voicing.vUv) := by decide +kernel

theorem witness_FireEventDefersToTheRepetition :
    let n := note .armed (some strike) none
    let r := withNotes [n] (.returning 1022764) playing
    let h := withNotes [n, { note .sounding none none with onsetTime := 900000 }] (.hold 60 60) playing
    let p := withNotes [n, { note .sounding none none with onsetTime := 900000 }] (.strike 1037764 90) playing
    ((r.setNow 1037763).nextDue = some n ∧ r.dropsStrike 5 = false ∧
        reached 1037763 (after 1022764 (1000 * (r.store.key 5).tRep)) = false) ∧
      ((h.setNow 1037763).nextDue = some n ∧ h.dropsStrike 5 = false ∧ (h.key 5).stroke = .hold 60 60 ∧
        ∀ m ∈ h.notes, m.same n = true → m = n) ∧
      ((p.setNow 1037763).nextDue = some n ∧ p.dropsStrike 5 = false ∧ reached 1037763 1037764 = false ∧
        p.releasedBy 5 1037764 = false ∧ ∀ m ∈ p.notes, m.atOnce = false) := by decide +kernel

theorem witness_FireEventDefersToTheRepetition_released :
    let n := note .armed (some strike) none
    let m := { note .sounding none (some 1037764) with onsetTime := 900000 }
    let p := withNotes [n, m] (.strike 1037764 90) playing
    (p.setNow 1037763).nextDue = some n ∧ p.dropsStrike 5 = false ∧ (p.key 5).stroke = .strike 1037764 90 ∧
      reached 1037763 1037764 = false ∧ (∃ m ∈ p.notes, m.driver = 5 ∧ m.state = .sounding) ∧
      (∀ m ∈ p.notes, m.driver = 5 → m.state = .sounding → m.releaseTime = some 1037764) ∧
      reached 1037764 1037764 = true ∧
      ∀ m ∈ p.notes, m.atOnce = false := by decide +kernel

theorem witness_ReleaseEventLetsTheKeyGo :
    let n := note .sounding (some strike) (some 1100000)
    let h := withNotes [n] (.hold 60 60) playing
    let p := withNotes [n] (.strike 1100500 90) playing
    (∀ m ∈ h.notes, m.atOnce = false) ∧ (h.setNow 1100000).nextDue = some n ∧ (h.key 5).stroke = .hold 60 60 ∧
      ((p.setNow 1100000).nextDue = some n ∧ (p.key 5).stroke = .strike 1100500 90) := by decide +kernel

/-! ### The key drive bank and its monitors -/

theorem witness_PulseAndReturnEndAtTheirTimes :
    let s := withNotes [note .sounding (some strike) none] (.strike 1047763 90) playing
    let r := withNotes [note .sounding (some strike) (some 1047763)] (.strike 1047763 90) playing
    let e := withNotes [] (.returning 960000) playing
    let w := withNotes [] (.returning 960000) (station .winddown)
    (s.key 5).stroke = .strike 1047763 90 ∧ reached 1047763 1047763 = true ∧ s.releasedBy 5 1047763 = false ∧
      (r.key 5).stroke = .strike 1047763 90 ∧ r.releasedBy 5 1047763 = true ∧
      (e.key 5).stroke = .returning 960000 ∧ reached 1000000 (after 960000 (1000 * (e.store.key 5).tReturn)) = true ∧
      e.mode ≠ .winddown ∧ (w.key 5).stroke = .returning 960000 ∧ w.mode = .winddown := by decide +kernel

theorem witness_CurrentCrossingsRunTheMonitors :
    let s := withNotes [] (.strike 1010000 90) playing
    let r := s.setOverRun (some 999981) (.key 5)
    let p := damper .holding 180 85 [] playing
    let q := p.setPedal { p.pedal .damper with overRun := none } .damper
    let c := p.setPedal { p.pedal .damper with overRun := some 999981 } .damper
    let h := withNotes [note .sounding (some strike) none] (.hold 60 1) playing
    let o := h.setKey 5 { h.key 5 with openRun := some 998001 }
    let d := h.setKey 5 { h.key 5 with openRun := some 998000 }
    ((s.key 5).stroke.driven = true ∧ (s.key 5).overRun = none ∧ (s.key 5).stroke = .strike 1010000 90 ∧
        (r.key 5).overRun = some 999981 ∧ (r.key 5).stroke.driven = true ∧
        timeDiff 1000000 999981 < (r.store.deglitch : Int) ∧ (playing.key 5).stroke.driven = false) ∧
      ((q.pedal .damper).state.energized = true ∧ (q.pedal .damper).base ≠ 0 ∧ (q.pedal .damper).overRun = none ∧
        (c.pedal .damper).state.energized = true ∧ (c.pedal .damper).base ≠ 0 ∧
        (c.pedal .damper).overRun = some 999981 ∧ (playing.pedal .shift).state.energized = false ∧
        ((damper .holding 0 0 [] playing).pedal .damper).base = 0) ∧
      ((h.key 5).stroke = .hold 60 1 ∧ (1 : Nat) ≠ 0 ∧ (h.key 5).openRun = none) ∧
      ((o.key 5).stroke = .hold 60 1 ∧ (o.key 5).openRun = some 998001 ∧ timeDiff 1000000 998001 < 2000) ∧
      ((d.key 5).stroke = .hold 60 1 ∧ (d.key 5).openRun = some 998000 ∧ 2000 ≤ timeDiff 1000000 998000) := by
  decide +kernel

theorem witness_OvercurrentFaultsTheStage :
    let s := (withNotes [note .waiting none none] (.strike 1010000 90) playing).setOverRun (some 999980) (.key 5)
    let q := (withNotes [] (.strike 1010000 90) playing).setOverRun (some 999980) (.key 5)
    let p := damper .holding 180 85 [] playing
    ((s.store.deglitch : Int) ≤ timeDiff 1000000 999980 ∧ (s.key 5).stroke.driven = true ∧
        (s.key 5).overRun = some 999980 ∧
        (s.notes.filter fun m => decide (m.driver = 5 ∧ m.state ≠ .sounding)).length = 1) ∧
      ((q.store.deglitch : Int) ≤ timeDiff 1000000 999980 ∧ (q.key 5).stroke.driven = true ∧
        (q.key 5).overRun = some 999980 ∧
        (q.notes.filter fun m => decide (m.driver = 5 ∧ m.state ≠ .sounding)).length = 0) ∧
      ((p.store.deglitch : Int) ≤ timeDiff 1000000 999980 ∧ (p.pedal .damper).state.energized = true ∧
        (p.pedal .damper).base ≠ 0 ∧ (p.pedal .damper).overRun = some 999980) := by decide +kernel

/-! ### The pedals -/

def pedalEvent : PedalEvent := { position := .down, line := 800, action := some 1000000 }

theorem witness_PedalActionEventCommandsThePedal :
    let s := damper .resting 0 0 [pedalEvent] playing
    let w := damper .resting 0 0 [pedalEvent] (station .winddown)
    (s.pedal .damper).events = [pedalEvent] ∧ pedalEvent.action = some 1000000 ∧ reached 1000000 1000000 = true ∧
      s.mode = .play ∧ s.pedalAllowed .damper = true ∧
      (s.pedal .damper).isAt (s.store.pedalTarget .damper pedalEvent.position) = false ∧ 0 < s.store.tRamp ∧
      (w.pedal .damper).events = [pedalEvent] ∧ w.mode ≠ .play := by decide +kernel

theorem witness_PedalActionEventCommandsThePedal_forms :
    let r : Ramp := { d0 := 0, target := 180, start := 990000, steps := 30, taken := 9 }
    let s := damper (.moving r) 54 85 [pedalEvent] playing
    let back := damper (.moving { r with target := 90 }) 54 85 [pedalEvent] playing
    let once := { back with voicing := some { voicing with tRamp := 0 } }
    let shut := back.setThermal .p { level := .shutdown, previous := none }
    let held := damper .holding 180 85 [pedalEvent] playing
    (∃ x : Ramp, (s.pedal .damper).state = .moving x ∧ x.target = 180) ∧
      ((held.pedal .damper).state = .holding ∧ (held.pedal .damper).base = 180) ∧
      (¬ (∃ x : Ramp, (back.pedal .damper).state = .moving x ∧ x.target = 180) ∧
        (back.pedal .damper).state ≠ .faulted ∧ back.isShut .p = false ∧ back.holdOff = false ∧ 0 < back.store.tRamp) ∧
      once.store.tRamp = 0 ∧ shut.isShut .p = true ∧ (s.pedal .damper).events = [pedalEvent] := by
  refine ⟨⟨_, rfl, rfl⟩, by decide +kernel, ⟨?_, by decide +kernel⟩, by decide +kernel⟩
  rintro ⟨x, h, hx⟩
  cases h
  cases hx

theorem witness_RampStepMovesTheBaseDuty :
    let r : Ramp := { d0 := 0, target := 180, start := 990000, steps := 30, taken := 9 }
    let e : Ramp := { d0 := 0, target := 180, start := 970000, steps := 30, taken := 29 }
    let s := damper (.moving r) 54 85 [] playing
    let f := damper (.moving e) 174 85 [] playing
    (s.pedal .damper).state = .moving r ∧ reached 1000000 (after r.start (1000 * (r.taken + 1))) = true ∧
      r.taken + 1 < r.steps ∧ (f.pedal .damper).state = .moving e ∧
      reached 1000000 (after e.start (1000 * (e.taken + 1))) = true ∧ e.steps ≤ e.taken + 1 := by decide +kernel

/-! ### Sharing the supply -/

theorem witness_ShareTimersActAtTheirTimes :
    let s := playing.setShare { playing.share with lastLoad := some { value := 0, time := 500000 } }
    let p := loaded 40 playing
    (s.mode.active = true ∧ s.share.lastLoad = some { value := 0, time := 500000 } ∧
        500000 ≤ timeDiff 1000000 500000 ∧ (s.slot .load).state.free = true ∧
        ((s.placeFrame .load none).slot .load).state = .queued ∧
        ((s.moveSlot .load .sending).slot .load).state = .sending) ∧
      ((p.peer 9).present = true ∧ 1500000 ≤ timeDiff 2500000 (p.peer 9).lastHeard) := by decide +kernel

theorem witness_LoadFrameSetsThePeersLoad :
    let s := handling (.load 130) false playing
    let o := handling (.load 130) true playing
    let x := fun load state => loaded load (claimed 26 1037763 1062763 state playing)
    let y := (x 165 .sending).requestCancel (.claim .a) .final
    let room := fun t : State => t.headroom 1037763 1062763 (some .a)
    (s.toHandle = some (entryOf (.load 130) false) ∧ (entryOf (.load 130) false).own = false ∧
        (entryOf (.load 130) false).sender ≠ s.number ∧ o.toHandle = some (entryOf (.load 130) true) ∧
        (entryOf (.load 130) true).own = true) ∧
      (room (x 164 .queued) = 26 ∧ room (x 165 .sent) = 25 ∧ ((x 165 .sent).slot (.claim .a)).state = .sent) ∧
      (room (x 165 .queued) = 25 ∧ ((x 165 .queued).slot (.claim .a)).state = .queued ∧
        ∀ m ∈ (((x 165 .queued).purge.moveSlot (.claim .a) .cancelled).fit .a).notes, m.atOnce = false) ∧
      (room (x 165 .sending) = 25 ∧ ((x 165 .sending).slot (.claim .a)).state = .sending ∧
        ((x 165 .sending).slot (.claim .a)).cancel = none) ∧
      (room y = 25 ∧ (y.slot (.claim .a)).state = .sending ∧ (y.slot (.claim .a)).cancel ≠ none) := by decide +kernel

theorem witness_ClaimFrameIsRecorded :
    let f : Payload := .claim 3 false false 90 15 30
    let old : Time → ClaimRecord := fun stop => { tag := 1, amount := 5, start := 990000, stop }
    let s := fun claims => (handling f false playing).setPeer 9
      { present := true, load := 0, lastHeard := 990000, claims }
    let four := [old 1500000, old 1600000, old 1600000, old 1550000]
    let o := handling f true playing
    ((s []).toHandle = some (entryOf f false) ∧ (entryOf f false).own = false ∧ (entryOf f false).sender ≠ (s []).number ∧
        ((s []).slot (.claim .a)).state.free = true ∧ ((s []).slot (.claim .b)).state.free = true) ∧
      (liveClaims 1000000 ((s [old 1500000, old 1500000, old 1500000, old 1000000]).peer 9).claims).length = 3 ∧
      ((s four).toHandle = some (entryOf f false) ∧ liveClaims 1000000 ((s four).peer 9).claims = four ∧ four.length = 4 ∧
        four[2]? = some (old 1600000) ∧ earlier (1600000 : Time) 1500000 = false ∧ earlier (1600000 : Time) 1600000 = false ∧
        earlier (1550000 : Time) 1600000 = true) ∧
      (o.toHandle = some (entryOf f true) ∧ (entryOf f true).own = true) := by decide +kernel

theorem witness_ClaimFrameIsRecorded_rechecked :
    let f : Payload := .claim 3 false false 90 15 30
    let s := fun x => handling f false (loaded 100 (claimed 26 1015000 1062763 x playing))
    (s .queued).toHandle = some (entryOf f false) ∧ (entryOf f false).sender ≠ (s .queued).number ∧
      ((s .queued).slot (.claim .a)).state = .queued ∧ ((s .sending).slot (.claim .a)).state = .sending ∧
      ends (.claimFrame 1000000) (s .queued)
        (fun t => (t.slot (.claim .a)).queuedAt = 1000000 && ((t.claimSlot .a).claim.map Claim.amount ≠ some 26)) = true ∧
      ends (.claimFrame 1000000) (s .sending) (fun t => (t.slot (.claim .a)).cancel = some .refit) = true := by
  decide +kernel

/-! ### Protection and measurement -/

theorem witness_DueSampleBeginsOrWaits :
    let s := playing.setConv { playing.conv with schedule := some { due := 1000000, phase := 7 } }
    let b := converting (.stage (.key 5)) (some { requester := 15, item := 7, argument := 5 }) s
    s.mode.active = true ∧ s.conv.schedule = some { due := 1000000, phase := 7 } ∧ reached 1000000 1000000 = true ∧
      s.conv.inFlight = none ∧ b.conv.schedule = some { due := 1000000, phase := 7 } ∧ b.conv.inFlight ≠ none := by
  decide +kernel

theorem witness_SupplySampleMovesTheConditions :
    let s := converting .supply none playing
    let l := { s with voicing := some { voicing with uvLatched := true } }.setProt
      { playing.prot with uv := { present := false, run := true } }
    s.conv.inFlight = some { source := .supply, probe := none, ends := 1000000 } ∧ reached 1000000 1000000 = true ∧
      (479 < s.store.vUv ∧ s.store.vUv + 4 ≤ 484 ∧ s.store.vOvw < 701 ∧ 696 + 4 ≤ s.store.vOvw) ∧
      (l.conv.inFlight = some { source := .supply, probe := none, ends := 1000000 } ∧ l.store.uvLatched = true ∧
        l.mode ≠ .silenced ∧ l.prot.uv.present = false ∧
        ends (.supplySample 1000000 479) l (fun t => t.prot.uv.present) = true) := by decide +kernel

/-- A sample inside the margins: a key in HOLD and a pedal MOVING take their new applied duties. -/
theorem witness_SupplySampleMovesTheConditions_quiet :
    let r : Ramp := { d0 := 0, target := 180, start := 990000, steps := 30, taken := 9 }
    let w := withNotes [note .sounding (some strike) none] (.hold 60 60) (damper (.moving r) 54 85 [] playing)
    let s := converting .supply none w
    let d := s.setConv { s.conv with waiting := [{ source := .cluster .a, due := 999000 }] }
    let p := d.setConv { d.conv with waitingProbe := some { source := .supply, probe := { requester := 9, item := 5, argument := 0 } } }
    ends (.supplySample 1000000 500) s
        (fun t => decide (t.holdOff = s.holdOff ∧ t.prot.uvFault = s.prot.uvFault ∧ t.prot.ovsFault = s.prot.ovsFault ∧
          t.mode ≠ .silenced ∧ (t.key 5).stroke = .hold 60 72 ∧ (t.pedal .damper).applied = 65)) = true ∧
      ((s.key 5).stroke = .hold 60 60 ∧ (s.pedal .damper).state.energized = true ∧
        (s.pedal .shift).state.energized = false ∧ (s.key 4).stroke = .rest) ∧
      (s.conv.waitingProbe = none ∧ s.conv.waiting = []) ∧
      (d.conv.waitingProbe = none ∧ d.conv.waiting = [{ source := .cluster .a, due := 999000 }]) ∧
      (p.conv.waitingProbe.isSome = true ∧ p.conv.inFlight = s.conv.inFlight) := by decide +kernel

theorem witness_HoldOffBeginsAndEnds :
    let s := converting .supply none
      ((withNotes [note .sounding (some strike) none, { note .waiting none none with onsetTime := 1000500 }] (.hold 60 60)
        (damper .holding 180 85 [] playing)).setProt
        { playing.prot with uv := { present := false, run := true } })
    let e := fun tRamp => ({ (converting .supply none playing) with voicing := some { voicing with tRamp } }.setProt
      { playing.prot with uv := { present := true, run := true } }).setPedal
        { PedalDrive.reset with commanded := .down } .damper
    (s.Safe ∧ s.mode = .play ∧ s.conv.inFlight = some { source := .supply, probe := none, ends := 1000000 } ∧
      reached 1000000 1000000 = true ∧ s.store.uvLatched = false ∧ s.holdOff = false ∧
      s.prot.uv = { present := false, run := true } ∧ (479#10).toNat < s.store.vUv ∧ (479#10).toNat ≤ s.store.vOvs) ∧
      (((e 30).mode = .play ∧
          (e 30).conv.inFlight = some { source := .supply, probe := none, ends := 1000000 } ∧
          (e 30).store.uvLatched = false ∧ (e 30).prot.uv = { present := true, run := true } ∧
          (e 30).prot.ovs.present = false) ∧
        ((e 30).store.vUv + 4 ≤ (484#10).toNat ∧ (484#10).toNat ≤ (e 30).store.vOvs ∧
          ((e 30).pedal .damper).commanded ≠ .up ∧ ((e 30).pedal .damper).state = .resting ∧
          ((e 30).pedal .damper).base = 0 ∧ (e 30).isShut .p = false ∧ (e 30).store.pedalTarget .damper .down ≠ 0) ∧
        0 < (e 30).store.tRamp ∧ (e 0).store.tRamp = 0 ∧ ((e 0).pedal .damper).commanded = .down ∧
        ((e 30).pedal .shift).commanded = .up) := by
  refine ⟨⟨⟨⟨by decide +kernel, fun p => by cases p <;> decide +kernel⟩, ?_⟩, by decide +kernel⟩, by decide +kernel⟩
  exact ⟨fun _ => by decide +kernel, by decide +kernel, by decide +kernel⟩

theorem witness_TemperatureSampleMovesTheLevel :
    let u : Thermal := { level := .warm, previous := some .hot }
    let v : Thermal := { level := .hot, previous := some .normal }
    let s := (converting (.cluster .b) none playing).setThermal .b u
    let w : Thermal := { level := .hot, previous := some .shutdown }
    let k := fun cl => (converting (.cluster cl) none (withNotes [note .waiting none none] (.hold 60 60) playing)).setThermal cl w
    let all := { (k .b) with voicing := some { voicing with thermalGlobal := true } }
    s.conv.inFlight = some { source := .cluster .b, probe := none, ends := 1000000 } ∧ reached 1000000 1000000 = true ∧
      s.prot.clusters.get .b = u ∧ u.level ≠ .shutdown ∧
      (u.level.rank < (indicated u.level 135).rank ∧ u.level.rank < Level.hot.rank) ∧
      ((indicated v.level 124).rank < v.level.rank ∧ Level.normal.rank < v.level.rank) ∧
      ¬ u.level.rank < (indicated u.level 134).rank ∧
      ((k .b).prot.clusters.get .b = w ∧ (k .p).prot.clusters.get .p = w ∧ (k .b).store.thermalGlobal = false ∧
        ((k .b).key 5).stroke.driven = true ∧ clusterOf 5 = .b ∧ clusterOf 0 ≠ .b ∧
        ends (.temperatureSample 1000000 160) (k .b) (fun t => (t.prot.clusters.get .b).level = .shutdown) = true ∧
        ends (.temperatureSample 1000000 160) (k .p) (fun t => (t.prot.clusters.get .p).level = .shutdown) = true ∧
        all.store.thermalGlobal = true ∧ all.mode ≠ .silenced ∧
        ends (.temperatureSample 1000000 160) all (fun t => (t.prot.clusters.get .b).level = .shutdown) = true) := by decide +kernel

theorem witness_TemperatureSampleMovesTheLevel_crosses :
    let held := withNotes [note .sounding (some strike) none] (.hold 60 60) playing
    let s := fun (level : Level) (previous : Option Level) =>
      (converting (.cluster .b) none held).setThermal .b { level, previous }
    let crossed := fun (value : Int) (t : State) (s : State) =>
      ends (.temperatureSample 1000000 value) s
        (fun u => decide ((u.prot.clusters.get .b).level = (t.prot.clusters.get .b).level ∧ (u.key 5).stroke = (t.key 5).stroke))
    let after := fun (level : Level) (base : Nat) => (s level none).setKey 5 { Key.reset with stroke := .hold base base }
    (crossed 115 (after .warm 20) (s .normal (some .warm)) = true ∧ crossed 114 (after .normal 60) (s .normal (some .warm)) = true ∧
        crossed 104 (after .normal 60) (s .warm (some .normal)) = true ∧ crossed 105 (after .warm 60) (s .warm (some .normal)) = true) ∧
      (indicated .normal 115 = .warm ∧ indicated .normal 135 = .hot ∧ indicated .normal 160 = .shutdown ∧
        indicated .warm 105 = .warm ∧ indicated .hot 125 = .hot ∧ indicated .hot 124 = .warm ∧ indicated .hot 104 = .normal) ∧
      (clusterOf 5 = .b ∧ ((s .normal none).key 5).stroke = .hold 60 60 ∧ clusterOf 4 = .b ∧
        ((s .normal none).key 4).stroke = .rest) ∧
      ((s .normal none).conv.waitingProbe = none ∧ (s .normal none).conv.waiting = []) := by decide +kernel

theorem witness_ProbeConversionAnswers :
    let id : ProbeId := { requester := 15, item := 7, argument := 5 }
    let s := converting (.stage (.key 5)) (some id) playing
    s.conv.inFlight = some { source := .stage (.key 5), probe := some id, ends := 1000000 } ∧
      reached 1000000 1000000 = true ∧ id.item ≠ 3 ∧ (s.slot .reply).state.free = true := by decide +kernel

theorem witness_ProbeConversionAnswers_forms :
    let id : ProbeId := { requester := 15, item := 7, argument := 5 }
    let s := converting (.stage (.key 5)) (some id) (withNotes [] (.hold 60 60) playing)
    let q := s.placeFrame .reply (some (.reply 9 3 0x60 0))
    let d := s.setConv { s.conv with waiting := [{ source := .cluster .a, due := 999000 }] }
    let p := s.setConv { s.conv with waitingProbe := some { source := .supply, probe := { id with item := 5 } } }
    ((s.key 5).stroke.driven = true ∧ (playing.key 5).stroke.driven = false) ∧
      ((q.slot .reply).state = .queued ∧ ((q.moveSlot .reply .sending).slot .reply).state = .sending) ∧
      (s.conv.waiting = [] ∧ s.conv.waitingProbe = none ∧ d.conv.waiting = [{ source := .cluster .a, due := 999000 }] ∧
        p.conv.waiting = [] ∧ p.conv.waitingProbe.isSome = true ∧ p.conv.inFlight = s.conv.inFlight) := by decide +kernel

/-! ### Station control -/

theorem witness_PlayEntersPlay :
    let s := fun m => handling (.transport 1 255 0) false (station m)
    let g : Segment := { start := 30, s0 := 640, target := 800, rate := 8, accent := false }
    let p := sourcing ((s .winddown).setHalf { HalfShade.reset with generator := some g } .bass)
    (s .standby).toHandle = some (entryOf (.transport 1 255 0) false) ∧ (s .standby).addressed 255 = true ∧
      (s .standby).mode = .standby ∧ (s .winddown).mode = .winddown ∧ (s .play).mode = .play ∧
      (s .silenced).mode = .silenced ∧ (s .silenced).toHandle = some (entryOf (.transport 1 255 0) false) ∧
      ((s .standby).generates .bass = true ∧ ((s .standby).half .bass).generator = none ∧
        (s .standby).generates .treble = false ∧ (s .standby).isPedalSource = false) ∧
      (p.toHandle = some (entryOf (.transport 1 255 0) false) ∧ p.mode = .winddown ∧ p.generates .bass = true ∧
        (p.half .bass).generator = some g ∧ p.isPedalSource = true) := by
  decide +kernel

theorem witness_StopWindsDown :
    let s := handling (.transport 2 4 0) false
      ((withNotes [note .sounding (some strike) none] (.hold 60 60) playing).placeFrame (.claim .a) none)
    (∀ m ∈ s.notes, m.atOnce = false) ∧ s.toHandle = some (entryOf (.transport 2 4 0) false) ∧ s.addressed 4 = true ∧
      s.mode = .play ∧ (s.slot (.claim .a)).state = .queued := by decide +kernel

theorem witness_StopWindsDown_notes :
    let n := note .sounding (some strike) none
    let s := fun ns x => handling (.transport 2 4 0) false (withNotes ns x (damper .holding 180 85 [pedalEvent] playing))
    let h := s [{ n with releaseTime := some 1000001 }, note .waiting none none] (.hold 60 60)
    let p := s [n] (.strike 1010000 90)
    let r := s [{ n with releaseTime := some 1000000 }] (.strike 1010000 90)
    let c := (h.placeFrame (.claim .a) none).setSlot (.claim .b) { OutSlot.reset with state := .sending }
    ((∀ m ∈ h.notes, m.atOnce = false) ∧ h.toHandle = some (entryOf (.transport 2 4 0) false) ∧ h.notes.length ≤ 40 ∧
        (h.key 5).stroke = .hold 60 60 ∧ earlier 1000000 1000001 = true ∧
        (∃ m ∈ h.notes, m.driver = 5 ∧ m.state = .sounding ∧ m.released = false ∧ m.releaseTime = some 1000001)) ∧
      ((p.key 5).stroke = .strike 1010000 90 ∧ p.notes = [n] ∧ n.releaseTime = none) ∧
      ((r.key 5).stroke = .strike 1010000 90 ∧ earlier 1000000 1000000 = false ∧
        ∀ m ∈ r.notes, m.state = .sounding ∧ m.releaseTime = some 1000000) ∧
      ((c.slot (.claim .a)).state = .queued ∧ (c.slot (.claim .b)).state = .sending ∧ c.mode = .play ∧
        c.addressed 4 = true) ∧
      ((h.pedal .damper).state = .holding ∧ (h.pedal .damper).base = 180 ∧ h.isShut .p = false ∧ h.holdOff = false ∧
        0 < h.store.tRamp ∧ (h.pedal .shift).base = 0) := by decide +kernel

theorem witness_ClearEndsWhatHasNoCause :
    let s := (handling (.transport 3 255 0) false (withNotes [] .faulted (station .silenced))).setProt
      { playing.prot with halt := true }
    s.toHandle = some (entryOf (.transport 3 255 0) false) ∧ s.addressed 255 = true ∧ s.mode.active = true ∧
      (s.key 5).stroke = .faulted := by decide +kernel

theorem witness_TrimIsClamped :
    let s := handling (.transport 4 4 0xBF) false playing
    s.toHandle = some (entryOf (.transport 4 4 0xBF) false) ∧ s.addressed 4 = true ∧ s.mode.active = true := by
  decide +kernel

theorem witness_HaltSilencesTheStation :
    let s := handling (.halt 255) false (withNotes [note .sounding (some strike) none] (.hold 60 60) playing)
    s.toHandle = some (entryOf (.halt 255) false) ∧ s.addressed 255 = true ∧ s.mode.active = true ∧
      s.mode ≠ .silenced := by decide +kernel

theorem witness_ProbeIsAnsweredOrConverted :
    let s := handling (.probe 4 20 0) false playing
    let c := handling (.probe 4 7 13) false (station .unvoiced)
    s.toHandle = some (entryOf (.probe 4 20 0) false) ∧ s.number = 4 ∧ s.mode.active = true ∧
      (s.slot .reply).state.free = true ∧ c.toHandle = some (entryOf (.probe 4 7 13) false) ∧ c.mode = .unvoiced ∧
      senseSource 7 13 = some (.stage (.pedal .shift)) ∧ c.conv.inFlight = none := by decide +kernel

theorem witness_ProbeIsAnsweredOrConverted_forms :
    let s := fun item argument => handling (.probe 4 item argument) false playing
    let q := (s 3 0).placeFrame .reply (some (.reply 9 3 0x60 0))
    let b := converting .supply none (s 6 3)
    (senseSource 6 3 = some (.cluster .p) ∧ senseSource 6 4 = none ∧ senseSource 7 11 = some (.stage (.key 11)) ∧
        senseSource 7 12 = some (.stage (.pedal .damper)) ∧ senseSource 7 14 = none ∧ senseSource 3 0 = none ∧
        senseSource 33 0 = none) ∧
      ((s 7 14).toHandle = some (entryOf (.probe 4 7 14) false) ∧ (s 7 14).mode.active = true ∧
        ((11#8).toNat = (11 : Driver).val) ∧ (4 : Nat) ≤ (4#8).toNat) ∧
      ((q.slot .reply).state = .queued ∧ ((q.moveSlot .reply .sending).slot .reply).state = .sending ∧
        q.toHandle = some (entryOf (.probe 4 3 0) false)) ∧
      (b.conv.inFlight ≠ none ∧ b.toHandle = some (entryOf (.probe 4 6 3) false)) := by decide +kernel

/-! ### Frames taken from the intake -/

/-- A treble timeline of `n` segments that start at lines 0, 1, … -/
def timeline (n : Nat) : List Segment :=
  (List.range n).map fun i => { start := BitVec.ofNat 16 i, s0 := 640, target := 800, rate := 8, accent := false }

/-- The station with a frame in handling and a treble timeline. -/
def listening (f : Payload) (ts : List Segment) : State :=
  (handling f false playing).setHalf { HalfShade.reset with timeline := ts, through := some 3 } .treble

theorem witness_ShadeFramesAreTaken :
    let f : Line → Payload := fun line => .segment .treble false 640 8 50 line
    let k := fun line ts => listening (.keep .treble line) ts
    (listening (f 4096) []).toHandle = some (entryOf (f 4096) false) ∧ (listening (f 4096) []).mode.active = true ∧
      (entryOf (f 4096) false).own = false ∧ (entryOf (f 4096) false).sender ≠ playing.number ∧
      playing.store.authority .treble = some 9 ∧
      ((lineDiff 4096 playing.scan.line).natAbs ≤ 4096 ∧ 4096 < (lineDiff 4097 playing.scan.line).natAbs) ∧
      timeline 6 = timeline 5 ++ [{ start := 5, s0 := 640, target := 800, rate := 8, accent := false }] ∧
      (5 : Line) ≠ 6 ∧ 0 < lineDiff 6 5 ∧ ¬ 0 < lineDiff 4 5 ∧ (timeline 5).length = 5 ∧ (timeline 4).length < 5 ∧
      ((k 5 (timeline 6)).toHandle = some (entryOf (.keep .treble 5) false) ∧ (k 5 (timeline 6)).mode.active = true ∧
        ((k 5 (timeline 6)).half .treble).timeline.getLast? =
          some { start := 5, s0 := 640, target := 800, rate := 8, accent := false } ∧
        ¬ lineDiff 5 5 < 0 ∧ lineDiff 4 5 < 0 ∧ ((k 4096 []).half .treble).timeline = [] ∧
        (k 4097 []).toHandle = some (entryOf (.keep .treble 4097) false)) := by decide +kernel

/-- With the earliest waiting onset at line 3 the segments that end by it leave; with none waiting the current line counts. -/
theorem witness_ShadeFramesAreTaken_pruned :
    let s := (listening (.load 1) (timeline 6)).setNotes [{ note .waiting none none with onsetLine := 3 }]
    let g := fun i => (timeline 6).getD i segment
    ((∀ n ∈ s.notes, n.state = .waiting → ¬ lineDiff n.onsetLine s.scan.line < lineDiff 3 s.scan.line) ∧
        (∃ n ∈ s.notes, n.state = .waiting ∧ n.onsetLine = 3)) ∧
      ((s.half .treble).timeline = [g 0, g 1, g 2] ++ [g 3, g 4, g 5] ∧ lineDiff (g 3).start 3 ≤ 0 ∧
        0 < lineDiff (g 4).start 3 ∧ lineDiff (g 1).start 3 ≤ 0 ∧ lineDiff (g 2).start 3 ≤ 0) ∧
      ((s.prune .treble).half .treble).timeline = [g 3, g 4, g 5] ∧
      ((∀ n ∈ (s.setNotes []).notes, n.state ≠ .waiting) ∧ (s.setNotes []).scan.line = 0 ∧
        0 < lineDiff (g 1).start 0 ∧ ((s.setNotes []).prune .treble).half .treble = s.half .treble) := by decide +kernel

theorem witness_PedalFrameEntersTheQueue :
    let f : Payload := .pedal .shift 1 40
    let s := handling f false playing
    let r := handling f false (playing.setScan { playing.scan with line := 40, ring := [{ line := 40, time := 960001 }] })
    s.toHandle = some (entryOf f false) ∧ s.mode.active = true ∧ s.isPedalDrive = true ∧
      (entryOf f false).sender ≠ s.number ∧ s.store.pedalSource = some 9 ∧ (lineDiff 40 s.scan.line).natAbs ≤ 4096 ∧
      (s.pedal .shift).events = [] ∧ Position.down = (if Pedal.shift = .damper then .half else .down) ∧
      s.scan.ringTime 40 = .notYet ∧ r.scan.ringTime 40 = .at 960001 ∧
      reached 1000000 (shifted 960001 (r.store.delay - 1000 * r.store.pedalLead)) = false := by decide +kernel

theorem witness_PedalFrameEntersTheQueue_order :
    let up : Line → PedalEvent := fun line => { position := .up, line, action := none }
    let s := fun (line : Line) (events : List PedalEvent) (ring : List RingEntry) =>
      ((handling (.pedal .damper 2 line) false playing).setScan
        { playing.scan with line := 40, ring }).setPedal { PedalDrive.reset with events } .damper
    let ring := [{ line := 39, time := 950000 }, { line := 40, time := 960000 }]
    let now : Time := 1000000
    ((lineDiff 4136 (s 4136 [] ring).scan.line).natAbs ≤ 4096 ∧ 4096 < (lineDiff 4137 (s 4137 [] ring).scan.line).natAbs ∧
        (s 4137 [] ring).toHandle = some (entryOf (.pedal .damper 2 4137) false)) ∧
      ((s 40 [] ring).scan.ringTime 40 = .at 960000 ∧ (s 38 [] ring).scan.ringTime 38 = .tooOld ∧
        (s 41 [] ring).scan.ringTime 41 = .notYet ∧ (s 41 [] []).scan.ringTime 41 = .notYet ∧
        reached now (shifted 960000 ((s 40 [] ring).store.delay - 1000 * (s 40 [] ring).store.pedalLead)) = true ∧
        reached now now = true) ∧
      (lineDiff (up 40).line 40 < lineDiff 41 40 ∧ lineDiff 41 40 < lineDiff (up 42).line 40 ∧
        ((s 41 [up 40, up 42] ring).pedal .damper).events = [up 40] ++ [up 42] ∧
        ((s 41 [up 40, up 41, up 42] ring).pedal .damper).events = [up 40] ++ up 41 :: [up 42] ∧
        (up 41).line = 41) ∧
      (((s 44 [up 41, up 42, up 43] ring).pedal .damper).events.length + 1 = 4 ∧
        ((s 45 [up 41, up 42, up 43, up 44] ring).pedal .damper).events.length + 1 = 5 ∧
        ((s 38 [up 41, up 42, up 43, up 44] ring).pedal .damper).events.length + 1 = 5 ∧
        (s 38 [] ring).store.pedalSource = some 9 ∧ (s 38 [] ring).isPedalDrive = true) := by decide +kernel

theorem witness_HandlingEndTakesTheNextEntry :
    let done := playing.setLink
      { playing.link with handling := some { entry := entryOf (.load 1) false, done := true } }
    let more := done.setLink { done.link with intake := [entryOf (.load 2) false] }
    (handling (.notice 0x60 1) false playing).toHandle = some (entryOf (.notice 0x60 1) false) ∧
      (handling (.reply 15 0 0x60 3) false playing).toHandle = some (entryOf (.reply 15 0 0x60 3) false) ∧
      done.link.handling = some { entry := entryOf (.load 1) false, done := true } ∧ done.link.intake = [] ∧
      more.link.intake = [entryOf (.load 2) false] := by decide +kernel

/-! ### The section link -/

/-- The line idle, a NOTICE queued. -/
def idle : State := (playing.setLink { playing.link with line := .idle }).placeFrame .notice (some (.notice 0x60 1))

/-- An attempt of a slot on the line. -/
def sending (i : Slot) (frame : Payload) (objections : Nat) : State :=
  let s := playing.moveSlot i .sending
  s.setLink
    { s.link with
      line := .idle, onLine := some { slot := i, wasQueued := true, frame }, objectionCount := objections
      handling := some { entry := entryOf (.load 1) false, done := false } }

def claim : Claim :=
  { tag := 1, amount := 26, windowStart := 1037763, windowEnd := 1062763, overdrawn := false, late := false }

theorem witness_AttemptBeginsTheChosenFrame :
    let e := playing.setLink { playing.link with line := .idle }
    let offer := fun start stop => claimed 26 start stop .queued e
    let waits := fun held => idle.setLink
      { idle.link with
        intake := if held then [] else [entryOf (.load 1) false]
        handling := if held then some { entry := entryOf (.load 1) false, done := true } else none }
    let r := idle.setLink { idle.link with line := .receiving }
    (idle.chosen = some .notice ∧ Slot.isClaim .notice = false ∧ (idle.slot .notice).frame = some (.notice 0x60 1)) ∧
      ((offer 1000000 1000200).chosen = some (.claim .a) ∧ reached (after 1000000 200) (1000200 : Time) = true ∧
        e.mode ≠ .winddown ∧ ((offer 1000000 1000200).claimSlot .a).claim.isSome = true) ∧
      ((offer 1000000 1000201).chosen = some (.claim .a) ∧ reached (after 1000000 200) (1000201 : Time) = false ∧
        (offer 1037763 1062763).chosen = some (.claim .a) ∧ ((offer 1037763 1062763).claimSlot .a).claim = some claim ∧
        reached (after 1000000 200) claim.windowEnd = false) ∧
      ((∃ x ∈ (waits false).link.intake, x.payload.interlocks = true) ∧
        ∃ h, (waits true).link.handling = some h ∧ h.entry.payload.interlocks = true) ∧
      (r.link.line = .receiving ∧ r.chosen = none) ∧ (e.link.line = .idle ∧ e.link.onLine = none) := by
  refine ⟨by decide +kernel, by decide +kernel, by decide +kernel, ⟨by decide +kernel, _, rfl, by decide +kernel⟩,
    by decide +kernel, by decide +kernel⟩

/-- At equal queued times SHADE-BASS goes before SHADE-TREBLE and CLAIM-A before CLAIM-B; an earlier queued time goes first. -/
theorem witness_AttemptBeginsTheChosenFrame_order :
    let e := playing.setLink { playing.link with line := .idle }
    let q := fun (i : Slot) (time : Time) (s : State) =>
      s.setSlot i { OutSlot.reset with state := .queued, frame := some (.load 1), queuedAt := time }
    let shades := q (.shade .bass) 1000000 (q (.shade .treble) 1000000 e)
    let treble := q (.shade .bass) 1000000 (q (.shade .treble) 999999 e)
    let claims := q (.claim .a) 1000000 (q (.claim .b) 1000000 e)
    let late := q (.claim .a) 1000000 (q (.claim .b) 999999 e)
    let load := q .load 1 (q (.claim .a) 1000000 e)
    let held := load.setLink { load.link with intake := [entryOf (.load 1) false] }
    let muted := shades.setLink { shades.link with muted := true }
    shades.chosen = some (.shade .bass) ∧ treble.chosen = some (.shade .treble) ∧ claims.chosen = some (.claim .a) ∧
      late.chosen = some (.claim .b) ∧ load.chosen = some (.claim .a) ∧ held.chosen = some .load ∧ e.chosen = none ∧
      (muted.chosen = none ∧ muted.link.line = .idle ∧ muted.link.onLine = none) := by decide +kernel

theorem witness_LostArbitrationRequeuesTheSlot :
    let s := sending .load (.load 7) 0
    s.link.onLine = some { slot := .load, wasQueued := true, frame := .load 7 } ∧ (s.slot .load).cancel = none ∧
      s.share.heldLoad = none ∧ s.control.heldNotice = none ∧ s.control.heldProbe = none ∧ s.mode ≠ .winddown := by
  decide +kernel

/-- An attempt of a claim slot on the line, with a cancellation pending, and an ARMED member. -/
def cancelling (kind : CancelKind) (load : Nat) : State :=
  let member : Note := { note .armed (some strike) none with claimTag := some { slot := .a, tag := 1 } }
  let s := loaded load ((sending (.claim .a) (.load 1) 0).setNotes [member])
  (s.setClaimSlot { counter := 1, claim := some claim } .a).setSlot (.claim .a)
    { s.slot (.claim .a) with cancel := some kind }

theorem witness_LostArbitrationRequeuesTheSlot_held :
    let load := (sending .load (.load 7) 0).setShare { playing.share with heldLoad := some 9 }
    let notice := (sending .notice (.notice 0x60 1) 0).setControl
      { playing.control with heldNotice := some { condition := 0x61, cause := 2 } }
    let probe := (sending .reply (.reply 9 20 0x60 3) 0).setControl
      { playing.control with heldProbe := some { probe := { requester := 9, item := 4, argument := 0 }, sensed := none } }
    let retry := (sending .load (.load 7) 0).setLink
      { (sending .load (.load 7) 0).link with onLine := some { slot := .load, wasQueued := false, frame := .load 7 } }
    (load.link.onLine = some { slot := .load, wasQueued := true, frame := .load 7 } ∧ (load.slot .load).cancel = none ∧
        load.share.heldLoad = some 9 ∧ load.mode ≠ .winddown) ∧
      (notice.link.onLine = some { slot := .notice, wasQueued := true, frame := .notice 0x60 1 } ∧
        (notice.slot .notice).cancel = none ∧ notice.control.heldNotice = some { condition := 0x61, cause := 2 }) ∧
      (probe.link.onLine = some { slot := .reply, wasQueued := true, frame := .reply 9 20 0x60 3 } ∧
        (probe.slot .reply).cancel = none ∧ probe.control.heldProbe.map (fun x => x.probe.item) = some 4) ∧
      retry.link.onLine = some { slot := .load, wasQueued := false, frame := .load 7 } := by decide +kernel

/-- A claim above the headroom by one has a member whose refit duty fires it later: nothing is left to fire at once. -/
theorem witness_LostArbitrationRequeuesTheSlot_cancelled :
    ((cancelling .final 174).link.onLine = some { slot := .claim .a, wasQueued := true, frame := .load 1 } ∧
        ((cancelling .final 174).slot (.claim .a)).cancel = some .final) ∧
      (((cancelling .refit 174).slot (.claim .a)).cancel = some .refit ∧
        ((cancelling .refit 174).claimSlot .a).claim = some claim ∧ (cancelling .refit 174).mode ≠ .winddown ∧
        ∀ m ∈ (((cancelling .refit 174).moveSlot (.claim .a) .cancelled).fit .a).notes, m.atOnce = false) := by
  decide +kernel

/-- R162: a LOAD of station 4 read back as sent is SENT; with a bit of its length read dominant, its delimiter dominant, or its
objection slot dominant it is objected. -/
theorem test_read_back :
    let s := sending .load (.load 130) 0
    let back := drivenBits 4 (.load 130)
    let after := fun bits ending =>
      ends (.attemptEnd 1000000 bits ending) s (fun t => (t.slot .load).state = .sent && t.counters.objections = 0)
    let objected := fun bits ending =>
      ends (.attemptEnd 1000000 bits ending) s (fun t => (t.slot .load).state = .sending && t.counters.objections = 1)
    back.take 3 = [false, true, false] ∧ back.length = 43 ∧ after back ⟨true, true⟩ = true ∧
      objected (back.set 1 false) ⟨true, true⟩ = true ∧ objected back ⟨true, false⟩ = true ∧
      objected back ⟨false, true⟩ = true := by decide +kernel

theorem readsAsSent_iff (s : State) (a : Attempt) (bits : List Bool) (ending : ObjectionBits) :
    s.ReadsAsSent a bits ending ↔ ownObjected s.number a.frame bits ending = false :=
  (ownObjected_eq_false_iff _ _ _ _).symm

/-- What a sender reads back as it was sent, and what it does not, at the ends of what it drives; the last bit of the check
is recessive and need not be given. -/
theorem witness_ReadsAsSent :
    let s := sending .load (.load 130) 0
    let a : Attempt := { slot := .load, wasQueued := true, frame := .load 130 }
    let back := drivenBits 4 (.load 130)
    (s.ReadsAsSent a back ⟨true, true⟩ ∧ s.ReadsAsSent a back.dropLast ⟨true, true⟩) ∧
      (¬ s.ReadsAsSent a (back.set 0 true) ⟨true, true⟩ ∧ ¬ s.ReadsAsSent a (back.set 42 false) ⟨true, true⟩ ∧
        ¬ s.ReadsAsSent a back ⟨false, true⟩ ∧ ¬ s.ReadsAsSent a back ⟨true, false⟩) := by
  simp only [readsAsSent_iff]
  decide +kernel

theorem witness_CleanAttemptIsSentAndEchoed :
    let f : Payload := .claim 1 false false 26 36 26
    let s := (sending (.claim .a) f 1).setClaimSlot { counter := 1, claim := some claim } .a
    let full := s.setLink { s.link with intake := List.replicate 23 (entryOf (.load 1) false) }
    s.link.onLine = some { slot := .claim .a, wasQueued := true, frame := f } ∧
      (s.claimSlot .a).claim = some claim ∧ s.mode.active = true ∧ s.mode ≠ .winddown ∧
      s.link.handling = some { entry := entryOf (.load 1) false, done := false } ∧ full.link.intake.length < 24 ∧
      (full.claimSlot .a).claim = some claim ∧
      s.ReadsAsSent { slot := .claim .a, wasQueued := true, frame := f } (drivenBits 4 f) ⟨true, true⟩ := by
  simp only [readsAsSent_iff]
  decide +kernel

/-- The slot of an attempt on the line is SENDING; the NOTICE slot too, with an objection count about to mute. -/
theorem witness_ObjectedAttemptRetriesOrFails_sending :
    let n := sending .notice (.notice 0x60 1) 31
    (sending (.claim .a) (.load 1) 31).holdsLine ∧ (sending .load (.load 7) 31).holdsLine ∧
      (cancelling .refit 174).holdsLine ∧
      (n.holdsLine ∧ n.link.objectionCount = 31 ∧ n.link.muted = false ∧ n.control.lossMark = false ∧
        n.mode = .play ∧ (n.slot .notice).cancel = none ∧ (n.slot .notice).attempts + 1 < 4) :=
  ⟨fun _ h => by cases h; rfl, fun _ h => by cases h; rfl, fun _ h => by cases h; rfl, fun _ h => by cases h; rfl,
    by decide +kernel⟩

theorem witness_ObjectedAttemptRetriesOrFails :
    let s := sending (.claim .a) (.load 1) 31
    let f := s.setSlot (.claim .a) { s.slot (.claim .a) with attempts := 3 }
    (s.slot (.claim .a)).cancel = none ∧ (s.slot (.claim .a)).state = .sending ∧
      s.mode ≠ .winddown ∧ s.link.objectionCount ≤ 32 ∧ ¬ 4 ≤ (s.slot (.claim .a)).attempts + 1 ∧
      4 ≤ (f.slot (.claim .a)).attempts + 1 ∧ (f.slot (.claim .a)).state = .sending ∧
      ¬ s.ReadsAsSent { slot := .claim .a, wasQueued := true, frame := .load 1 } [] ⟨true, true⟩ := by
  simp only [readsAsSent_iff]
  decide +kernel

theorem witness_ObjectedAttemptRetriesOrFails_pending :
    let load := fun attempts => ((sending .load (.load 7) 31).setShare { playing.share with heldLoad := some 9 }).setSlot
      .load { OutSlot.reset with state := .sending, attempts }
    ((cancelling .final 174).link.onLine.isSome = true ∧ ((cancelling .final 174).slot (.claim .a)).cancel = some .final ∧
        (cancelling .final 174).link.objectionCount ≤ 32) ∧
      (((cancelling .refit 174).slot (.claim .a)).cancel = some .refit ∧
        ((cancelling .refit 174).claimSlot .a).claim = some claim ∧
        ∀ m ∈ (((cancelling .refit 174).moveSlot (.claim .a) .cancelled).fit .a).notes, m.atOnce = false) ∧
      (((load 2).slot .load).cancel = none ∧ ((load 2).slot .load).attempts + 1 < 4 ∧
        ¬ ((load 3).slot .load).attempts + 1 < 4 ∧ (load 2).share.heldLoad = some 9 ∧
        (load 2).link.objectionCount = 31 ∧ (load 2).mode ≠ .winddown) := by decide +kernel

theorem witness_EndedSlotsAreRefilled :
    let frame : Payload := .load 7
    let full := fun i => (sending i frame 30).setSlot i { OutSlot.reset with state := .sending, attempts := 3 }
    let last := fun i => let s := sending i frame 0; s.setLink { s.link with intake := List.replicate 23 (entryOf frame false) }
    let more := (last (.shade .bass)).setHalf { HalfShade.reset with queue := [.keep 3] } .bass
    let moves := (last .pedal).setPedals
      { playing.pedals with queue := [{ pedal := .damper, position := .down, line := 5 }] }
    let value := (last .load).setShare { playing.share with heldLoad := some 5000 }
    let notice := (last .notice).setControl { playing.control with heldNotice := some { condition := 0x60, cause := 1 } }
    let probe := (last .reply).setControl
      { playing.control with
        lossMark := true, carriedLoss := true
        heldProbe := some { probe := { requester := 15, item := 20, argument := 0 }, sensed := none } }
    ((∀ i ∈ [Slot.shade .bass, .pedal, .load, .notice, .reply], (last i).EndsAttempt { slot := i, wasQueued := true, frame } true ∧
        (full i).EndsAttempt { slot := i, wasQueued := true, frame } false) ∧ playing.mode.active = true) ∧
      ((∀ i ∈ [Slot.shade .bass, .pedal, .load, .notice, .reply],
          (last i).ReadsAsSent { slot := i, wasQueued := true, frame } (drivenBits 4 frame) ⟨true, true⟩ ∧
          ¬ (full i).ReadsAsSent { slot := i, wasQueued := true, frame } (drivenBits 4 frame) ⟨true, false⟩)) ∧
      (((last (.shade .bass)).half .bass).queue = [] ∧ (last .pedal).pedals.queue = [] ∧ (last .load).share.heldLoad = none ∧
        (last .notice).control.heldNotice = none ∧ (last .reply).control.heldProbe = none) ∧
      ((more.half .bass).queue = [.keep 3] ∧ moves.pedals.queue = [{ pedal := .damper, position := .down, line := 5 }] ∧
        value.share.heldLoad = some 5000 ∧ notice.control.heldNotice = some { condition := 0x60, cause := 1 } ∧
        probe.control.heldProbe = some { probe := { requester := 15, item := 20, argument := 0 }, sensed := none }) ∧
      (more.EndsAttempt { slot := .shade .bass, wasQueued := true, frame } true ∧
        moves.EndsAttempt { slot := .pedal, wasQueued := true, frame } true ∧
        value.EndsAttempt { slot := .load, wasQueued := true, frame } true ∧
        notice.EndsAttempt { slot := .notice, wasQueued := true, frame } true ∧
        probe.EndsAttempt { slot := .reply, wasQueued := true, frame } true) := by
  simp only [readsAsSent_iff]
  refine ⟨⟨fun i h => ?_, by decide +kernel⟩, by decide +kernel, by decide +kernel, by decide +kernel, ?_⟩
  · simp only [List.mem_cons, List.not_mem_nil, or_false] at h
    rcases h with rfl | rfl | rfl | rfl | rfl <;> (unfold State.EndsAttempt; decide +kernel)
  · refine ⟨?_, ?_, ?_, ?_, ?_⟩ <;> (unfold State.EndsAttempt; decide +kernel)

theorem witness_FramesOfOthersAreTaken :
    let h : Handling := { entry := entryOf (.load 1) false, done := false }
    let s := fun n => playing.setLink
      { playing.link with line := .idle, handling := some h, intake := List.replicate n (entryOf (.load 1) false) }
    let m := fun count => (s 22).setLink { (s 22).link with muted := true, objectionCount := 32, cleanCount := count }
    (s 22).link.line ≠ .unread ∧ (s 22).link.onLine = none ∧ (s 22).link.muted = false ∧ (s 22).mode.active = true ∧
      (s 22).link.handling = some h ∧ (s 22).link.intake.length < 23 ∧ 23 ≤ (s 23).link.intake.length ∧
      (s 23).link.handling = some h ∧
      ((m 62).link.muted = true ∧ (m 62).link.intake.length < 23 ∧ (m 62).link.handling = some h ∧
        (m 62).link.cleanCount + 1 < 64 ∧ 64 ≤ (m 63).link.cleanCount + 1 ∧ (m 63).link.line ≠ .unread ∧
        (m 63).link.onLine = none ∧ (m 63).mode.active = true ∧ (m 63).control.lossMark = false) ∧
      (idle.link.line ≠ .unread ∧ idle.link.onLine = none ∧ playing.link.line = .unread) := by decide +kernel

/-! ### Arithmetic and the whole machine -/

theorem witness_StagesOfTheArmComputation :
    let v := readVoicing image
    let r := readKey image 0
    (255 : Nat) ≤ 255 ∧ (0 : Nat) ≤ 255 ∧ v.key 0 = r ∧
      (r.eMin ≤ 0 ∧ (0 : Nat) ≤ 1023 ∧ r.eMin ≤ 1023 ∧ dutyOf r 1023 ≤ max r.pFloor 255 ∧ max r.pFloor 1 < dutyOf r 1023) ∧
      ((1 : Nat) ≤ 1 ∧ (1 : Nat) ≤ 255) ∧ (1023 : Nat) ≤ 1023 := by decide +kernel

theorem witness_StagesOfTheArmComputation_shade :
    let g : Segment := { start := 30, s0 := 640, target := 800, rate := 8, accent := false }
    let s := fun ts through =>
      (playing.setHalf { HalfShade.reset with timeline := ts, through } .treble : State)
    (((3 : Nat) : Int) = lineDiff 33 g.start ∧ g.rate ≠ 0 ∧ g.s0 ≤ g.target ∧ ({ g with rate := 0 } : Segment).rate = 0 ∧
        ({ g with target := 0 } : Segment).target < ({ g with target := 0 } : Segment).s0) ∧
      (((s [] none).half .treble).timeline = [] ∧ (s [] none).generates .treble = false ∧
        (s [] none).generates .bass = true) ∧
      (((s [g, { g with start := 31 }] none).half .treble).timeline = [] ++ g :: [{ g with start := 31 }] ∧
        lineDiff g.start 30 ≤ 0 ∧ 0 < lineDiff 31 30 ∧ 0 < lineDiff g.start 29) ∧
      (((s [g] (some 30)).evaluateShade .treble 30).projected = false ∧
        ((s [g] (some 30)).evaluateShade .treble 31).projected = true ∧
        ((s [g] none).evaluateShade .treble 30).projected = true ∧ ¬ 0 < lineDiff 30 30 ∧ 0 < lineDiff 31 30) := by
  decide +kernel

theorem witness_DutyOfAnEnergy :
    key.pMin < key.pMax ∧ key.pFloor = dutyOf key key.eMin ∧ (361 : Nat) ≤ 362 ∧ key.eMin ≤ 361 ∧ (361 : Nat) ≤ 1023 ∧
      key.pMax ≤ 255 ∧ key.eMin ≤ 1023 ∧ key.pFloor ≤ 51 ∧ (51 : Nat) ≤ key.pMax := by
  decide +kernel

theorem witness_DutyOfAnEnergy_reduced :
    let x := reduceStrike voicing key 1025000 1000000 74
    x = ({ energy := 183, duty := 74, share := 18, fireTime := 1033935 }, false) ∧
      shifted (after 1000000 voicing.delay) (-(flight key x.1.energy : Int)) = 1033935 ∧
      (reduceStrike voicing key 1033936 1000000 74).2 = true := by decide +kernel

/-- The station at work: a key held, the damper held, counts raised. -/
def atWork : State :=
  let s := damper .holding 180 85 [] (withNotes [note .sounding (some strike) none] (.hold 60 60) playing)
  (s.setShare { s.share with ownLoad := 100 }).setCounters (s.counters.set 65535 .lateStrikes)

theorem witness_CountersSaturateAndOnlyRise :
    atWork.countersBounded ∧ ∃ t, exec (.strobe 1000000) atWork = .next t :=
  ⟨fun i => by cases i <;> decide +kernel, _, rfl⟩

theorem witness_CapacitiesAreKept :
    let s := { atWork with pending := [.strobe 1000000] }
    s.bounded ∧ ∃ t, step s = .next t := by
  refine ⟨⟨by decide +kernel, by decide +kernel, fun h => ?_, by decide +kernel, fun p => ?_, by decide +kernel,
    by decide +kernel, by decide +kernel, by decide +kernel⟩, _, rfl⟩
  · cases h <;> exact ⟨by decide +kernel, by decide +kernel⟩
  · cases p <;> decide +kernel

theorem witness_StandingLoadIsTheSumOfHolds :
    let s := { atWork with pending := [.pulseEnd 1000000 5] }
    (s.share.ownLoad = s.keyCurrents + s.pedals.damper.load + s.pedals.shift.load) ∧ ∃ t, step s = .next t :=
  ⟨by decide +kernel, _, rfl⟩

theorem witness_CoilsStayGated :
    let s := { atWork with pending := [.strobe 1000000] }
    s.Safe ∧ (s.key 5).stroke.driven = true ∧ ∃ t, step s = .next t := by
  refine ⟨⟨⟨by decide +kernel, fun p => by cases p <;> decide +kernel⟩, ?_⟩, by decide +kernel, _, rfl⟩
  exact ⟨fun _ => by decide +kernel, by decide +kernel, by decide +kernel⟩

theorem witness_EveryStepSettlesTheList :
    let s := { (withNotes [note .waiting none none] .rest playing) with pending := [.armEvent 1025000] }
    let a := { (sending .load (.load 7) 31) with pending := [.strobe 1000000] }
    (s.settled ∧ s.notes ≠ [] ∧ ∃ t, step s = .next t) ∧
      (a.holdsLine ∧ a.link.onLine.isSome = true ∧ ∃ t, step a = .next t) := by
  refine ⟨⟨?_, by decide +kernel, _, rfl⟩, fun _ h => ?_, by decide +kernel, _, rfl⟩
  · unfold State.settled
    decide +kernel
  · cases h
    rfl

theorem witness_ModesChangeByTheirEventsAlone :
    ends (.play 1000000) (handling (.transport 1 255 0) false (station .standby)) (fun t => t.mode ≠ .standby) = true := by
  decide +kernel

theorem witness_EveryConditionChangeIsNoticed :
    let s := handling (.transport 1 255 0) false (station .standby)
    ends (.play 1000000) s (fun t => t.mode.active && t.conditionByte ≠ s.conditionByte) = true := by decide +kernel

end Sys2Proof.Tests
end

section
/-! The key drivers: what a pulse end, a return end and the crossings of the current monitors make of the state (chapter 5,
R111), assembled from what each operation of the model does. -/

namespace Sys2Proof.Machine.KeyDrive

/-! ### What stays as it was -/

theorem changesOnly_append {l m : List Part} {s t u : State} (h : ChangesOnly l s t) (g : ChangesOnly m t u) :
    ChangesOnly (l ++ m) s u := by
  intro p hp
  have hst := h p fun hl => hp (List.mem_append_left m hl)
  have htu := g p fun hm => hp (List.mem_append_right l hm)
  cases p <;> exact htu.trans hst

theorem changesOnly_setNow (s : State) (now : Time) : ChangesOnly [] s (s.setNow now) := by
  intro p _
  cases p <;> rfl

theorem changesOnly_setKey (s : State) (k : Driver) (x : Key) : ChangesOnly [.keys] s (s.setKey k x) := by
  intro p hp
  cases p <;> simp_all [Part.same]

theorem changesOnly_setPedal (s : State) (p : Pedal) (x : PedalDrive) : ChangesOnly [.pedals] s (s.setPedal x p) := by
  intro q hq
  cases q <;> simp_all [Part.same]

theorem changesOnly_enterHold (s : State) (k : Driver) : ChangesOnly [.keys, .share, .link] s (s.enterHold k) := by
  intro p hp
  cases p <;> simp_all [Part.same]

theorem changesOnly_enterReturn (s : State) (k : Driver) :
    ChangesOnly [.notes, .keys, .share, .link] s (s.enterReturn k) := by
  intro p hp
  cases p <;> simp_all [Part.same]

theorem changesOnly_onReturnEnd (s : State) (k : Driver) : ChangesOnly [.mode, .keys] s (s.onReturnEnd k) := by
  intro p hp
  cases p <;> simp_all [Part.same]

@[simp] theorem key_notify (before s : State) (cause : Cause) (k : Driver) :
    (State.notify before cause s).key k = s.key k := by
  simp [State.key]

@[simp] theorem key_settleMode (s : State) (k : Driver) : s.settleMode.key k = s.key k := by
  simp [State.key]

theorem changesOnly_notify (before s : State) (cause : Cause) :
    ChangesOnly [.link, .control] s (State.notify before cause s) := by
  intro p hp
  cases p <;> simp_all [Part.same]

/-- An event that replaces one key's machine. -/
theorem setKey_at (s : State) (now : Time) (k : Driver) (x : Key) :
    ((s.setNow now).setKey k x).now = now ∧ ((s.setNow now).setKey k x).key k = x ∧
      KeysBut k s ((s.setNow now).setKey k x) ∧ ChangesOnly [.keys] s ((s.setNow now).setKey k x) :=
  ⟨by simp, by simp, (s.setNow now).keysBut_setKey k x,
    changesOnly_append (changesOnly_setNow s now) (changesOnly_setKey _ k x)⟩

/-- An event that replaces one pedal's machine. -/
theorem setPedal_at (s : State) (now : Time) (p : Pedal) (x : PedalDrive) :
    ((s.setNow now).setPedal x p).now = now ∧ ((s.setNow now).setPedal x p).pedal p = x ∧
      (∀ q : Pedal, q ≠ p → ((s.setNow now).setPedal x p).pedal q = s.pedal q) ∧
      ChangesOnly [.pedals] s ((s.setNow now).setPedal x p) :=
  ⟨by simp, by simp, fun q hq => by simp [State.pedal_setPedal, Ne.symm hq],
    changesOnly_append (changesOnly_setNow s now) (changesOnly_setPedal _ p x)⟩

/-! ### The commands as events -/

section
variable {s t : State} {now : Time} {k : Driver}

theorem exec_pulseEnd (h : (s.setNow now).onPulseEnd k = t) : exec (.pulseEnd now k) s = .next t :=
  congrArg Host.Outcome.next h

theorem exec_returnEnd (h : State.notify s .mode ((s.setNow now).onReturnEnd k) = t) :
    exec (.returnEnd now k) s = .next t :=
  congrArg Host.Outcome.next h

theorem exec_tripCurrentCrossing {stage : Stage} {above : Bool} (h : (s.setNow now).onTripCrossing stage above = t) :
    exec (.tripCurrentCrossing now stage above) s = .next t :=
  congrArg Host.Outcome.next h

theorem exec_openCurrentCrossing {below : Bool} (h : (s.setNow now).onOpenCrossing k below = t) :
    exec (.openCurrentCrossing now k below) s = .next t :=
  congrArg Host.Outcome.next h

theorem exec_openLoadWarning (h : (s.setNow now).onOpenLoad k = t) :
    exec (.openLoadWarning now k) s = .next (State.notify s .openLoad t) :=
  congrArg (fun u => Host.Outcome.next (State.notify s .openLoad u)) h

end

/-! ### Pulse end and return end (R82, R85) -/

theorem onPulseEnd_of_held {s : State} {k : Driver} {stop : Time} {duty : Nat}
    (hk : (s.key k).stroke = .strike stop duty) (hr : reached s.now stop = true) (hn : s.releasedBy k stop = false) :
    s.onPulseEnd k = s.enterHold k := by
  simp [State.onPulseEnd, hk, hr, hn]

theorem onPulseEnd_of_released {s : State} {k : Driver} {stop : Time} {duty : Nat}
    (hk : (s.key k).stroke = .strike stop duty) (hr : reached s.now stop = true) (hn : s.releasedBy k stop = true) :
    s.onPulseEnd k = s.enterReturn k := by
  simp [State.onPulseEnd, hk, hr, hn]

theorem onReturnEnd_of_reached {s : State} {k : Driver} {start : Time} (hk : (s.key k).stroke = .returning start)
    (hr : reached s.now (after start (1000 * (s.store.key k).tReturn)) = true) :
    s.onReturnEnd k = (s.setKey k { s.key k with stroke := .rest }).settleMode := by
  simp [State.onReturnEnd, hk, hr]

/-- A key entering HOLD: its open-load run starts where the duty flows and the current stands below I_open (R84, R94). -/
theorem enterHold_spec (s : State) (k : Driver) :
    (s.enterHold k).key k =
        { s.key k with
          stroke := .hold (s.baseHold k) (s.applied (s.baseHold k))
          holdCurrent := currentAt (s.store.key k).iFull (s.baseHold k)
          openRun := if s.applied (s.baseHold k) ≠ 0 ∧ (s.key k).lowCurrent = true then some s.now else none } ∧
      KeysBut k s (s.enterHold k) ∧
      (s.enterHold k).share.ownLoad =
        s.share.ownLoad + currentAt (s.store.key k).iFull (s.baseHold k) - (s.key k).holdCurrent ∧
      AnnouncesLoad s (s.enterHold k) ∧ SlotsOnly [.load] s (s.enterHold k) := by
  obtain ⟨hkey, hrest⟩ := s.holdKey_spec k (if (s.key k).lowCurrent then some s.now else none)
  refine ⟨hkey.trans ?_, hrest⟩
  by_cases h : s.applied (s.baseHold k) = 0 <;> simp [h]

/-! ### The condition byte and quiescence -/

/-- What a key's new machine has in common with the old one, every key has in common before and after. -/
theorem key_setKey_congr {β : Sort _} (f : Key → β) {s : State} {k : Driver} {x : Key} (h : f x = f (s.key k))
    (j : Driver) : f ((s.setKey k x).key j) = f (s.key j) := by
  rw [State.key_setKey]
  split
  · next hj => rw [h, hj]
  · rfl

/-- Of a key's machine the condition byte tells only whether it is FAULTED and whether it warns (R179). -/
theorem conditionByte_setKey {s : State} {k : Driver} {x : Key}
    (hf : x.stroke = .faulted ↔ (s.key k).stroke = .faulted) (hw : x.openWarning = (s.key k).openWarning) :
    (s.setKey k x).conditionByte = s.conditionByte := by
  have hfault := key_setKey_congr (fun y => y.stroke = .faulted) (propext hf)
  have hwarn := key_setKey_congr Key.openWarning hw
  have hF : (s.setKey k x).faultIndication = s.faultIndication := by
    simp only [State.faultIndication, hfault]
    rfl
  have hW : (s.setKey k x).warnIndication = s.warnIndication := by
    simp only [State.warnIndication, hwarn]
    rfl
  simp only [State.conditionByte, hF, hW]
  rfl

/-- A key that warns sets WARN (R153). -/
theorem warnIndication_of_openWarning {s : State} {k : Driver} (h : (s.key k).openWarning = true) :
    s.warnIndication = true := by
  have : ((List.finRange 12).any fun j => (s.key j).openWarning) = true :=
    List.any_eq_true.2 ⟨k, List.mem_finRange k, h⟩
  simp [State.warnIndication, this]

theorem settleMode_of_not_winddown {s : State} (h : s.mode ≠ .winddown) : s.settleMode = s := by
  simp [State.settleMode, h]

/-- Quiescence does not depend on the mode. -/
theorem quiescent_settleMode (s : State) : s.settleMode.quiescent = s.quiescent := by
  unfold State.settleMode
  split <;> rfl

theorem mode_settleMode_of_winddown {s : State} (h : s.mode = .winddown) :
    s.settleMode.mode = if s.quiescent then .standby else .winddown := by
  simp only [State.settleMode, h]
  split <;> simp_all

/-- A NOTICE does not bear on quiescence: it leaves the keys, the pedals and the claim slots. -/
theorem quiescent_notify (before s : State) (cause : Cause) :
    (State.notify before cause s).quiescent = s.quiescent := by
  obtain ⟨hslot, -⟩ := State.slotsOnly_notify before s cause
  have hpedal : ∀ p, (State.notify before cause s).pedal p = s.pedal p := fun p => by cases p <;> simp [State.pedal]
  simp only [State.quiescent, key_notify, hpedal, hslot (.claim .a) (by simp), hslot (.claim .b) (by simp)]

/-! ### The end of a return at the station (R85, R176) -/

/-- Outside WINDDOWN a return's end rests the key and changes nothing else. -/
theorem notify_onReturnEnd_outside_winddown {s : State} {now start : Time} {k : Driver}
    (hk : (s.key k).stroke = .returning start) (hr : reached now (after start (1000 * (s.store.key k).tReturn)) = true)
    (hm : s.mode ≠ .winddown) :
    State.notify s .mode ((s.setNow now).onReturnEnd k) = (s.setNow now).setKey k { s.key k with stroke := .rest } := by
  have hend := onReturnEnd_of_reached (s := s.setNow now) hk hr
  have hbyte := conditionByte_setKey (s := s.setNow now) (x := { s.key k with stroke := .rest }) (by simp [hk]) rfl
  rw [hend, settleMode_of_not_winddown (by simpa using hm)]
  exact State.notify_of_same hbyte

/-- In WINDDOWN a return's end leaves the station in STANDBY when it is quiescent by then, and in WINDDOWN otherwise. -/
theorem mode_onReturnEnd_of_winddown {s : State} {start : Time} {k : Driver} (hk : (s.key k).stroke = .returning start)
    (hr : reached s.now (after start (1000 * (s.store.key k).tReturn)) = true) (hm : s.mode = .winddown) :
    (s.onReturnEnd k).mode = if (s.onReturnEnd k).quiescent then .standby else .winddown := by
  rw [onReturnEnd_of_reached hk hr, quiescent_settleMode]
  exact mode_settleMode_of_winddown (by simpa using hm)

/-! ### The current monitors (R92, R94, R111) -/

theorem lasted_some (now since : Time) (interval : Int) :
    lasted now (some since) interval = decide (interval ≤ timeDiff now since) := rfl

/-- A pedal's stage is watched while it is energized above duty 0 (R111). -/
theorem tripWatched_pedal (s : State) (p : Pedal) :
    s.tripWatched (.pedal p) = ((s.pedal p).state.energized && decide ((s.pedal p).base ≠ 0)) := by
  simp only [State.tripWatched, PedalState.energized]
  cases (s.pedal p).state <;> rfl

theorem onTripCrossing_begins {s : State} {stage : Stage} (hw : s.tripWatched stage = true)
    (hr : s.overRun stage = none) : s.onTripCrossing stage true = s.setOverRun (some s.now) stage := by
  simp [State.onTripCrossing, hw, hr]

theorem onTripCrossing_abandons {s : State} {stage : Stage} {since : Time} (hw : s.tripWatched stage = true)
    (hr : s.overRun stage = some since) (hd : timeDiff s.now since < s.store.deglitch) :
    s.onTripCrossing stage false = s.setOverRun none stage := by
  have hdue : s.overDue stage = false := by simpa [State.overDue, hr, lasted_some] using hd
  simp [State.onTripCrossing, hw, hdue]

theorem onTripCrossing_of_not_watched {s : State} {stage : Stage} (hw : s.tripWatched stage = false) (above : Bool) :
    s.onTripCrossing stage above = s := by
  simp [State.onTripCrossing, hw]

theorem onOpenCrossing_of_not_driven {s : State} {k : Driver} (hk : (s.key k).stroke.driven = false) (below : Bool) :
    s.onOpenCrossing k below = s := by
  simp [State.onOpenCrossing, hk]

/-- In STRIKE the level is kept and no run is touched. -/
theorem onOpenCrossing_of_strike {s : State} {k : Driver} {stop : Time} {applied : Nat}
    (hk : (s.key k).stroke = .strike stop applied) (below : Bool) :
    s.onOpenCrossing k below = s.setKey k { s.key k with lowCurrent := below } := by
  simp [State.onOpenCrossing, State.crossedRun, State.openWatched, Stroke.driven, hk]

theorem openWatched_of_hold {s : State} {k : Driver} {base applied : Nat} (hk : (s.key k).stroke = .hold base applied)
    (ha : applied ≠ 0) : s.openWatched k = true := by
  simp [State.openWatched, hk, ha]

theorem openDue_iff {s : State} {k : Driver} {since : Time} (hr : (s.key k).openRun = some since) :
    s.openDue k = true ↔ 2000 ≤ timeDiff s.now since := by
  rw [State.openDue, hr, lasted_some, decide_eq_true_iff]

theorem onOpenCrossing_begins {s : State} {k : Driver} (hd : (s.key k).stroke.driven = true)
    (hw : s.openWatched k = true) (hr : (s.key k).openRun = none) :
    s.onOpenCrossing k true = s.setKey k { s.key k with lowCurrent := true, openRun := some s.now } := by
  simp [State.onOpenCrossing, State.crossedRun, hd, hw, hr]

theorem onOpenCrossing_abandons {s : State} {k : Driver} (hd : (s.key k).stroke.driven = true)
    (hw : s.openWatched k = true) (hdue : ¬ s.openDue k = true) :
    s.onOpenCrossing k false = s.setKey k { s.key k with lowCurrent := false, openRun := none } := by
  simp [State.onOpenCrossing, State.crossedRun, hd, hw, hdue]

theorem onOpenLoad_warns {s : State} {k : Driver} (hw : s.openWatched k = true) (hdue : s.openDue k = true) :
    s.onOpenLoad k = s.setKey k { s.key k with openRun := none, openWarning := true } := by
  simp [State.onOpenLoad, hw, hdue]

end Sys2Proof.Machine.KeyDrive

namespace Sys2Proof.Machine

open KeyDrive

/-- Settles O22, by the branch that a pulse end and a return end take and by what entering HOLD, entering RETURN and settling
the mode do. -/
theorem pulseAndReturnEndAtTheirTimes : Obligations.PulseAndReturnEndAtTheirTimes := by
  intro s now k stop start duty base
  refine ⟨fun hk hr hbase => ⟨fun hn => ?_, fun hn => ?_⟩, fun hk hr => ?_⟩
  · have hend := onPulseEnd_of_held (s := s.setNow now) hk hr hn
    obtain ⟨hkey, hkeys, hown, hann, hslots⟩ := enterHold_spec (s.setNow now) k
    subst hbase
    exact ⟨_, exec_pulseEnd hend, by simp, hkey, hown, hann, hkeys, hslots,
      changesOnly_append (changesOnly_setNow s now) (changesOnly_enterHold _ k)⟩
  · have hend := onPulseEnd_of_released (s := s.setNow now) hk hr hn
    obtain ⟨hkey, hkeys, hnotes, hown, hann, hslots⟩ := (s.setNow now).enterReturn_spec k
    exact ⟨_, exec_pulseEnd hend, by simp, hkey, hnotes, hown, hann, hkeys, hslots,
      changesOnly_append (changesOnly_setNow s now) (changesOnly_enterReturn _ k)⟩
  · have hend := onReturnEnd_of_reached (s := s.setNow now) hk hr
    refine ⟨_, exec_returnEnd rfl, by simp, by simp [hend], fun j hj => ?_, fun hm => ?_, fun hm => ?_, ?_, ?_⟩
    · simp [hend, State.key_setKey_ne _ _ hj]
    · rw [notify_onReturnEnd_outside_winddown hk hr hm]
      exact changesOnly_append (changesOnly_setNow s now) (changesOnly_setKey _ k _)
    · have hmode := mode_onReturnEnd_of_winddown (s := s.setNow now) hk hr hm
      simp only [State.notify_keeps, quiescent_notify, hmode]
      cases ((s.setNow now).onReturnEnd k).quiescent <;> simp
    · exact (SlotsOnly.of_link (by simp)).trans (State.slotsOnly_notify _ _ _)
    · exact changesOnly_append (changesOnly_append (changesOnly_setNow s now) (changesOnly_onReturnEnd _ k))
        (changesOnly_notify s _ .mode)

/-- Settles O23, by the crossings' effect on the run of a watched stage, and on the open-load run in HOLD. -/
theorem currentCrossingsRunTheMonitors : Obligations.CurrentCrossingsRunTheMonitors := by
  intro s now since k p base applied stop
  refine ⟨fun hd hr => ?_, fun hd hr hs => ?_, fun hd flag => ?_, fun he hb hr => ?_, fun he hb hr hs => ?_,
    fun hoff above => ?_, fun hk below => ?_, fun hk ha => ?_⟩
  · have hrun := onTripCrossing_begins (s := s.setNow now) (stage := .key k) hd hr
    exact ⟨_, exec_tripCurrentCrossing hrun, setKey_at s now k _⟩
  · have hrun := onTripCrossing_abandons (s := s.setNow now) (stage := .key k) hd hr hs
    exact ⟨_, exec_tripCurrentCrossing hrun, setKey_at s now k _⟩
  · have hno := onTripCrossing_of_not_watched (s := s.setNow now) (stage := .key k) hd flag
    have hopen := onOpenCrossing_of_not_driven (s := s.setNow now) (k := k) hd flag
    exact ⟨exec_tripCurrentCrossing hno, exec_openCurrentCrossing hopen⟩
  · have hw : (s.setNow now).tripWatched (.pedal p) = true := by simp [tripWatched_pedal, he, hb]
    have hrun := onTripCrossing_begins hw hr
    exact ⟨_, exec_tripCurrentCrossing hrun, setPedal_at s now p _⟩
  · have hw : (s.setNow now).tripWatched (.pedal p) = true := by simp [tripWatched_pedal, he, hb]
    have hrun := onTripCrossing_abandons hw hr hs
    exact ⟨_, exec_tripCurrentCrossing hrun, setPedal_at s now p _⟩
  · have hw : (s.setNow now).tripWatched (.pedal p) = false := by
      rcases hoff with he | hb
      · simp [tripWatched_pedal, he]
      · simp [tripWatched_pedal, hb]
    exact exec_tripCurrentCrossing (onTripCrossing_of_not_watched hw above)
  · have hkept := onOpenCrossing_of_strike (s := s.setNow now) hk below
    exact ⟨_, exec_openCurrentCrossing hkept, setKey_at s now k _⟩
  · have hd : ((s.setNow now).key k).stroke.driven = true := by simp [hk, Stroke.driven]
    have hw : (s.setNow now).openWatched k = true := openWatched_of_hold hk ha
    refine ⟨fun hr => ?_, fun hr hs => ?_, fun hr hs => ?_⟩
    · have hrun := onOpenCrossing_begins hd hw hr
      exact ⟨_, exec_openCurrentCrossing hrun, setKey_at s now k _⟩
    · have hdue : ¬ (s.setNow now).openDue k = true := fun h =>
        absurd ((openDue_iff (s := s.setNow now) hr).1 h) (Int.not_le.2 hs)
      have hrun := onOpenCrossing_abandons hd hw hdue
      exact ⟨_, exec_openCurrentCrossing hrun, setKey_at s now k _⟩
    · have hdue : (s.setNow now).openDue k = true := (openDue_iff (s := s.setNow now) hr).2 hs
      obtain ⟨-, -, hkeys, honly⟩ := setKey_at s now k { s.key k with openRun := none, openWarning := true }
      have hwarn := onOpenLoad_warns hw hdue
      exact ⟨_, exec_openLoadWarning hwarn, by simp, by simp, by simp, by simp,
        warnIndication_of_openWarning (k := k) (by simp), hkeys.trans (.of_keys (by simp)),
        (SlotsOnly.of_link (by simp)).trans (State.slotsOnly_notify _ _ _),
        changesOnly_append honly (changesOnly_notify s _ _)⟩

end Sys2Proof.Machine
end

section
/-! The pedals: what an action toward a position makes of a pedal's machine, what it leaves as it was, and the action event
of a pedal's earliest event (chapter 6), assembled from what each operation of the model does. -/

namespace Sys2Proof.Machine.PedalAction

open KeyDrive

/-! ### What an action at a pedal leaves as it was -/

/-- The own standing load follows the pedal's, and nothing else changes but the pedal and what announces the load. -/
def LoadFollows (p : Pedal) (s t : State) : Prop :=
  (∀ q : Pedal, q ≠ p → t.pedal q = s.pedal q) ∧ t.pedals.queue = s.pedals.queue ∧
  t.share.ownLoad = s.share.ownLoad + (t.pedal p).load - (s.pedal p).load ∧ AnnouncesLoad s t ∧
  SlotsOnly [.load] s t ∧ ChangesOnly [.pedals, .share, .link] s t

theorem changesOnly_mono {l m : List Part} {s t : State} (h : ChangesOnly l s t) (hlm : l ⊆ m) : ChangesOnly m s t :=
  fun p hp => h p fun hl => hp (hlm hl)

theorem changesOnly_trans {l : List Part} {s t u : State} (h : ChangesOnly l s t) (g : ChangesOnly l t u) :
    ChangesOnly l s u :=
  changesOnly_mono (changesOnly_append h g) (by simp)

theorem changesOnly_commandPedal (s : State) (p : Pedal) (position : Position) :
    ChangesOnly [.pedals] s (s.commandPedal p position) :=
  changesOnly_setPedal s p _

theorem changesOnly_drivePedal (s : State) (p : Pedal) (x : PedalState) (base : Nat) :
    ChangesOnly [.pedals, .share, .link] s (s.drivePedal p x base) := by
  intro q hq
  cases q <;> simp_all [Part.same]

theorem loadFollows_refl (p : Pedal) (s : State) : LoadFollows p s s :=
  ⟨fun _ _ => rfl, rfl, (Nat.add_sub_cancel _ _).symm, .refl s, .refl _ s, fun q _ => by cases q <;> rfl⟩

/-- A first step that leaves the pedal's load as it was may stand before one that the own load follows. -/
theorem loadFollows_trans {p : Pedal} {s t u : State} (hload : (t.pedal p).load = (s.pedal p).load)
    (h : LoadFollows p s t) (g : LoadFollows p t u) : LoadFollows p s u := by
  obtain ⟨hother, hqueue, hown, hann, hslots, hparts⟩ := h
  obtain ⟨gother, gqueue, gown, gann, gslots, gparts⟩ := g
  have hsame : t.share.ownLoad = s.share.ownLoad := by rw [hown, hload, Nat.add_sub_cancel]
  exact ⟨fun q hq => (gother q hq).trans (hother q hq), gqueue.trans hqueue, by rw [gown, hsame, hload],
    hann.trans gann, hslots.trans gslots, changesOnly_trans hparts gparts⟩

theorem loadFollows_setPedal {s : State} {p : Pedal} {x : PedalDrive} (hload : x.load = (s.pedal p).load) :
    LoadFollows p s (s.setPedal x p) :=
  ⟨fun q hq => by simp [State.pedal_setPedal, Ne.symm hq], by simp, by simp [hload], .of_share (by simp),
    .of_link (by simp), changesOnly_mono (changesOnly_setPedal s p x) (by simp)⟩

theorem loadFollows_drivePedal (s : State) (p : Pedal) (x : PedalState) (base : Nat) :
    LoadFollows p s (s.drivePedal p x base) := by
  obtain ⟨hpedal, hother, hown, hann, hslots, hqueue⟩ := s.drivePedal_spec p x base
  exact ⟨hother, hqueue, by rw [hown, hpedal], hann, hslots, changesOnly_drivePedal s p x base⟩

theorem loadFollows_rampPedal (s : State) (p : Pedal) (position : Position) :
    LoadFollows p s (s.rampPedal p position) := by
  simp only [State.rampPedal]
  split
  · exact loadFollows_refl p s
  · split
    · exact loadFollows_drivePedal s p _ _
    · exact loadFollows_drivePedal s p _ _

theorem loadFollows_actPedal (s : State) (p : Pedal) (position : Position) (modeAllows : Bool) :
    LoadFollows p s (s.actPedal p position modeAllows) := by
  have hcommand : LoadFollows p s (s.commandPedal p position) := loadFollows_setPedal rfl
  simp only [State.actPedal]
  split
  · exact loadFollows_trans (by simp [State.commandPedal]) hcommand (loadFollows_rampPedal _ p position)
  · exact hcommand

theorem loadFollows_takePedalEvent (s : State) (p : Pedal) : LoadFollows p s (s.takePedalEvent p) := by
  simp only [State.takePedalEvent]
  split
  · exact loadFollows_refl p s
  · next e rest _ =>
    have htaken : LoadFollows p s (s.setPedal { s.pedal p with events := rest } p) := loadFollows_setPedal rfl
    exact loadFollows_trans (by simp) htaken (loadFollows_actPedal _ p _ _)

/-! ### When an action starts a ramp (R107, R112) -/

theorem pedalAllowed_iff (s : State) (p : Pedal) : s.pedalAllowed p = true ↔ s.mayEnergize p := by
  simp [State.pedalAllowed, State.mayEnergize, and_assoc]

/-- A pedal that is not FAULTED is passed over by an action exactly when it heads for the target (R107). -/
theorem isAt_iff {x : PedalDrive} (h : x.state ≠ .faulted) (target : Nat) :
    x.isAt target = true ↔ x.headsFor target := by
  unfold PedalDrive.isAt PedalDrive.headsFor
  cases hx : x.state with
  | faulted => exact absurd hx h
  | resting | moving r | holding => simp

/-- Of a pedal's drive only the machine's state bears on whether the pedal may be energized (R112). -/
theorem mayEnergize_setPedal {s : State} {p : Pedal} {x : PedalDrive} (hx : x.state = (s.pedal p).state) :
    (s.setPedal x p).mayEnergize p ↔ s.mayEnergize p := by
  have hshut : (s.setPedal x p).isShut .p = s.isShut .p := by cases p <;> rfl
  have hoff : (s.setPedal x p).holdOff = s.holdOff := by cases p <;> rfl
  simp [State.mayEnergize, hshut, hoff, hx]

theorem mayEnergize_commandPedal (s : State) (p : Pedal) (position : Position) :
    (s.commandPedal p position).mayEnergize p ↔ s.mayEnergize p :=
  mayEnergize_setPedal rfl

theorem store_setPedal (s : State) (p : Pedal) (x : PedalDrive) : (s.setPedal x p).store = s.store :=
  State.store_congr (by simp)

theorem store_commandPedal (s : State) (p : Pedal) (position : Position) :
    (s.commandPedal p position).store = s.store :=
  store_setPedal s p _

theorem pedal_commandPedal (s : State) (p : Pedal) (position : Position) :
    (s.commandPedal p position).pedal p = { s.pedal p with commanded := position } := by
  simp [State.commandPedal]

theorem applied_commandPedal (s : State) (p : Pedal) (position : Position) (base : Nat) :
    (s.commandPedal p position).applied base = s.applied base := by
  simp [State.applied, store_commandPedal]

theorem pedal_drivePedal_self (s : State) (p : Pedal) (x : PedalState) (base : Nat) :
    (s.drivePedal p x base).pedal p =
      { s.pedal p with
        state := x, base, applied := s.applied base, load := pedalLoad s.store.iFullPedal x base
        overRun := if base = 0 then none else (s.pedal p).overRun } := by
  obtain ⟨hpedal, -⟩ := s.drivePedal_spec p x base
  exact hpedal

section
variable {s : State} {p : Pedal} {position : Position} {modeAllows : Bool} {target : Nat}

/-- An action that is not carried out, or that finds the pedal heading for its target, sets the commanded position alone
(R106, R107). -/
theorem actPedal_of_kept (ht : s.store.pedalTarget p position = target)
    (h : ¬ modeAllows = true ∨ ¬ s.mayEnergize p ∨ (s.pedal p).headsFor target) :
    s.actPedal p position modeAllows = s.commandPedal p position := by
  simp only [State.actPedal]
  split
  · next hact =>
    rw [Bool.and_eq_true, pedalAllowed_iff, mayEnergize_commandPedal] at hact
    obtain ⟨hmode, hmay⟩ := hact
    have hheads := (h.resolve_left (not_not_intro hmode)).resolve_left (not_not_intro hmay)
    have hat : ((s.commandPedal p position).pedal p).isAt target = true := by
      rw [pedal_commandPedal]
      exact (isAt_iff hmay.1 target).2 hheads
    simp only [State.rampPedal, store_commandPedal, ht, hat, if_true]
  · rfl

/-- An action carried out at a pedal that does not head for its target puts the machine there at once when T_ramp is 0, and
else starts a ramp from the present base duty (R107, R108). -/
theorem actPedal_of_moved (ht : s.store.pedalTarget p position = target) (hmode : modeAllows = true)
    (hmay : s.mayEnergize p) (hheads : ¬ (s.pedal p).headsFor target) :
    s.actPedal p position modeAllows =
      if s.store.tRamp = 0 then (s.commandPedal p position).drivePedal p (settledAt target) target
      else
        (s.commandPedal p position).drivePedal p
          (.moving { d0 := (s.pedal p).base, target, start := s.now, steps := s.store.tRamp, taken := 0 })
          (s.pedal p).base := by
  have hact : (modeAllows && (s.commandPedal p position).pedalAllowed p) = true := by
    simp [hmode, pedalAllowed_iff, mayEnergize_commandPedal, hmay]
  have hat : ¬ ((s.commandPedal p position).pedal p).isAt target = true := by
    rw [pedal_commandPedal]
    exact fun h => hheads ((isAt_iff hmay.1 target).1 h)
  simp only [State.actPedal, hact, if_true, State.rampPedal, store_commandPedal, ht, hat, State.commandPedal_keeps]
  simp only [pedal_commandPedal, Bool.false_eq_true, if_false]

/-! ### The machine an action leaves (R107, R109, R110) -/

/-- The standing load of a pedal that stands at a target duty, RESTING counting as duty 0 (R110). -/
theorem pedalLoad_settledAt (iFull target : Nat) :
    pedalLoad iFull (settledAt target) target = ceilDiv (iFull * target) 255 := by
  unfold settledAt
  split
  · next h => simp [h, pedalLoad, ceilDiv]
  · rfl

theorem takesAction_actPedal (ht : s.store.pedalTarget p position = target) :
    TakesAction s (s.actPedal p position modeAllows) s.now p position target (s.pedal p).events (modeAllows = true) := by
  by_cases h : ¬ modeAllows = true ∨ ¬ s.mayEnergize p ∨ (s.pedal p).headsFor target
  · rw [TakesAction, actPedal_of_kept ht h, pedal_commandPedal]
    exact ⟨rfl, rfl, fun _ => rfl, fun hmode hmay hheads =>
      absurd ((h.resolve_left (not_not_intro hmode)).resolve_left (not_not_intro hmay)) hheads⟩
  · obtain ⟨hmode, hmay, hheads⟩ : modeAllows = true ∧ s.mayEnergize p ∧ ¬ (s.pedal p).headsFor target := by
      rwa [not_or, not_or, Decidable.not_not, Classical.not_not] at h
    rw [TakesAction, actPedal_of_moved ht hmode hmay hheads]
    split
    · next honce =>
      rw [pedal_drivePedal_self, pedal_commandPedal, store_commandPedal, pedalLoad_settledAt, applied_commandPedal]
      exact ⟨rfl, rfl, fun g => absurd g h, fun _ _ _ => ⟨fun hpos => by omega, fun _ => ⟨rfl, rfl, rfl, rfl⟩⟩⟩
    · next hramp =>
      rw [pedal_drivePedal_self, pedal_commandPedal, store_commandPedal, applied_commandPedal]
      exact ⟨rfl, rfl, fun g => absurd g h, fun _ _ _ => ⟨fun _ => ⟨rfl, rfl, rfl, rfl⟩, fun g => absurd g hramp⟩⟩

end

/-- An action that follows a change of the pedal's own queue is one from before that change. -/
theorem takesAction_of_events {s t : State} {now : Time} {p : Pedal} {position : Position} {target : Nat}
    {events events' : List PedalEvent} {carried : Prop}
    (h : TakesAction (s.setPedal { s.pedal p with events := events' } p) t now p position target events carried) :
    TakesAction s t now p position target events carried := by
  have hmay := mayEnergize_setPedal (s := s) (p := p) (x := { s.pedal p with events := events' }) rfl
  simpa only [TakesAction, hmay, store_setPedal, State.pedal_setPedal_self, State.setPedal_keeps,
    PedalDrive.headsFor] using h

/-! ### The action event (R106) -/

section
variable {s : State} {p : Pedal} {e : PedalEvent} {rest : List PedalEvent} {target : Nat}

theorem takePedalEvent_of_cons (h : (s.pedal p).events = e :: rest) :
    s.takePedalEvent p =
      (s.setPedal { s.pedal p with events := rest } p).actPedal p e.position (s.mode = .play) := by
  simp [State.takePedalEvent, h]

theorem takesAction_takePedalEvent (h : (s.pedal p).events = e :: rest)
    (ht : s.store.pedalTarget p e.position = target) :
    TakesAction s (s.takePedalEvent p) s.now p e.position target rest (s.mode = .play) := by
  have hact := takesAction_actPedal (s := s.setPedal { s.pedal p with events := rest } p) (p := p)
    (modeAllows := decide (s.mode = .play)) (by rw [store_setPedal, ht])
  rw [State.pedal_setPedal_self, decide_eq_true_eq] at hact
  rw [takePedalEvent_of_cons h]
  simpa only [State.setPedal_keeps] using takesAction_of_events hact

/-- Where the machine keeps its state the action event changes the pedal alone. -/
theorem changesOnly_takePedalEvent_of_kept (h : (s.pedal p).events = e :: rest)
    (ht : s.store.pedalTarget p e.position = target)
    (hkept : s.mode ≠ .play ∨ ¬ s.mayEnergize p ∨ (s.pedal p).headsFor target) :
    ChangesOnly [.pedals] s (s.takePedalEvent p) := by
  have hmay := mayEnergize_setPedal (s := s) (p := p) (x := { s.pedal p with events := rest }) rfl
  rw [takePedalEvent_of_cons h, actPedal_of_kept (target := target)]
  · exact changesOnly_trans (changesOnly_setPedal s p _) (changesOnly_commandPedal _ p e.position)
  · rw [store_setPedal, ht]
  · simpa only [decide_eq_true_eq, hmay, State.pedal_setPedal_self, PedalDrive.headsFor] using hkept

theorem pedalDue_of_cons {action : Time} (h : (s.pedal p).events = e :: rest) (ha : e.action = some action) :
    s.pedalDue p = reached s.now action := by
  simp [State.pedalDue, h, ha]

end

theorem exec_pedalActionEvent_of_due {s : State} {now : Time} {p : Pedal} (h : (s.setNow now).pedalDue p = true) :
    exec (.pedalActionEvent now p) s = .next ((s.setNow now).takePedalEvent p) :=
  congrArg Host.Outcome.next (if_pos h)

end Sys2Proof.Machine.PedalAction

namespace Sys2Proof.Machine

open KeyDrive PedalAction

/-- Settles O25, by the action that the event taken gives its pedal, and by what an action leaves as it was. -/
theorem pedalActionEventCommandsThePedal : Obligations.PedalActionEventCommandsThePedal := by
  intro s now action p e rest target hevents haction hreached htarget
  have hevents' : ((s.setNow now).pedal p).events = e :: rest := hevents
  have hdue : (s.setNow now).pedalDue p = true := (pedalDue_of_cons hevents' haction).trans hreached
  have htable : target = s.store.pedalTarget p e.position := htarget.trans (by cases p <;> cases e.position <;> rfl)
  obtain ⟨hother, hqueue, hown, hann, hslots, hparts⟩ := loadFollows_takePedalEvent (s.setNow now) p
  exact ⟨_, exec_pedalActionEvent_of_due hdue, by simp, takesAction_takePedalEvent hevents' htable.symm,
    fun hkept => changesOnly_append (changesOnly_setNow s now)
      (changesOnly_takePedalEvent_of_kept hevents' htable.symm hkept),
    hother, hqueue, hown, hann, hslots, changesOnly_append (changesOnly_setNow s now) hparts⟩

end Sys2Proof.Machine
end

section
/-! The condition byte: what it tells bit by bit (R153, R179), and which operations leave it as it is. An event that may
change it goes through `State.notify`; every other one is shown here not to change it (R180). -/

namespace Sys2Proof.Machine.ConditionByte

open KeyDrive

/-! ### What the byte is made of (R153, R179) -/

theorem flag_eq (b : Bool) (weight : Nat) : flag b weight = weight * b.toNat := by
  cases b <;> simp [flag]

theorem testBit_of_div_mod {n i : Nat} {b : Bool} (h : n / 2 ^ i % 2 = b.toNat) : n.testBit i = b := by
  rw [Nat.testBit_eq_decide_div_mod_eq, h]
  cases b <;> rfl

/-- A number below 8 and five indications stand side by side in a byte, each to be read at its own place. -/
theorem byte_fields (m : Nat) (a b c d e : Bool) (hm : m < 8) :
    let n := (BitVec.ofNat 8 (32 * m + flag a 16 + flag b 8 + flag c 4 + flag d 2 + flag e 1)).toNat
    n / 32 = m ∧ n.testBit 4 = a ∧ n.testBit 3 = b ∧ n.testBit 2 = c ∧ n.testBit 1 = d ∧ n.testBit 0 = e := by
  have ha := a.toNat_le
  have hb := b.toNat_le
  have hc := c.toNat_le
  have hd := d.toNat_le
  have he := e.toNat_le
  simp only [flag_eq, BitVec.toNat_ofNat]
  refine ⟨by omega, ?_, ?_, ?_, ?_, ?_⟩ <;> exact testBit_of_div_mod (by omega)

theorem mem_clusters (cl : Cluster) : cl ∈ Cluster.all := by
  cases cl <;> simp [Cluster.all]

theorem exists_pedal_iff (P : Pedal → Prop) : (∃ p, P p) ↔ P .damper ∨ P .shift :=
  ⟨fun ⟨p, h⟩ => by cases p <;> simp [h], fun h => h.elim (⟨_, ·⟩) (⟨_, ·⟩)⟩

theorem level_eq_levelOf (s : State) (cl : Cluster) : (s.prot.clusters.get cl).level = s.levelOf cl := rfl

theorem isShut_iff (s : State) (cl : Cluster) : s.isShut cl = true ↔ s.levelOf cl = .shutdown := decide_eq_true_iff

theorem faultIndication_iff (s : State) :
    s.faultIndication = true ↔
      s.prot.uvFault = true ∨ s.prot.ovsFault = true ∨ s.prot.halt = true ∨
        (∃ cl : Cluster, (s.prot.clusters.get cl).level = .shutdown) ∨
        (∃ k : Driver, (s.key k).stroke = .faulted) ∨ ∃ p : Pedal, (s.pedal p).state = .faulted := by
  simp [State.faultIndication, isShut_iff, level_eq_levelOf, mem_clusters, exists_pedal_iff, or_assoc]

theorem warnIndication_iff (s : State) :
    s.warnIndication = true ↔
      s.prot.uvWarning = true ∨ s.prot.ovsWarning = true ∨ s.prot.ovw.present = true ∨
        (∃ k : Driver, (s.key k).openWarning = true) ∨
        ∃ cl : Cluster, (s.prot.clusters.get cl).level = .warm ∨ (s.prot.clusters.get cl).level = .hot := by
  simp [State.warnIndication, level_eq_levelOf, mem_clusters, or_assoc]

theorem supplyIndication_iff (s : State) :
    s.supplyIndication = true ↔
      s.prot.uv.present = true ∨ s.prot.ovw.present = true ∨ s.prot.ovs.present = true := by
  simp [State.supplyIndication, or_assoc]

theorem linkIndication_iff (s : State) :
    s.linkIndication = true ↔ s.link.muted = true ∨ s.control.lossMark = true := by
  simp [State.linkIndication]

/-- The byte tells the mode and the five indications (R179). -/
theorem fields_conditionByte (s : State) :
    s.conditionByte.toNat / 32 = s.mode.code ∧ s.conditionByte.toNat.testBit 4 = s.faultIndication ∧
    s.conditionByte.toNat.testBit 3 = s.warnIndication ∧ s.conditionByte.toNat.testBit 2 = s.supplyIndication ∧
    s.conditionByte.toNat.testBit 1 = s.linkIndication ∧ s.conditionByte.toNat.testBit 0 = s.schedIndication :=
  byte_fields s.mode.code _ _ _ _ _ (by cases s.mode <;> decide)

/-! ### Updates of one block -/

section
variable (s : State)

@[simp] theorem conditionByte_setScan (x : Scan) : (s.setScan x).conditionByte = s.conditionByte := rfl
@[simp] theorem conditionByte_setTracks (x : Vector Track 24) : (s.setTracks x).conditionByte = s.conditionByte := rfl
@[simp] theorem conditionByte_setShade (x : Shade) : (s.setShade x).conditionByte = s.conditionByte := rfl
@[simp] theorem conditionByte_setNotes (x : List Note) : (s.setNotes x).conditionByte = s.conditionByte := rfl
@[simp] theorem conditionByte_setShare (x : Share) : (s.setShare x).conditionByte = s.conditionByte := rfl
@[simp] theorem conditionByte_setConv (x : Converter) : (s.setConv x).conditionByte = s.conditionByte := rfl
@[simp] theorem conditionByte_count (i : Counter) : (s.count i).conditionByte = s.conditionByte := rfl
@[simp] theorem conditionByte_setSlot (i : Slot) (x : OutSlot) : (s.setSlot i x).conditionByte = s.conditionByte := rfl
@[simp] theorem conditionByte_markHandled : s.markHandled.conditionByte = s.conditionByte := rfl
@[simp] theorem conditionByte_carryMarks : s.carryMarks.conditionByte = s.conditionByte := rfl

@[simp] theorem conditionByte_setHalf (x : HalfShade) (h : Half) :
    (s.setHalf x h).conditionByte = s.conditionByte := by
  cases h <;> rfl

end

section
variable {s : State}

/-- Of the link controller the byte tells only whether it is muted (R179). -/
theorem conditionByte_setLink {x : Link} (h : x.muted = s.link.muted) :
    (s.setLink x).conditionByte = s.conditionByte := by
  have hlink : (s.setLink x).linkIndication = s.linkIndication := by
    simp [State.linkIndication, h]
  simp only [State.conditionByte, hlink]
  rfl

/-- Of the pedal unit the byte tells only which pedals are FAULTED (R179). -/
theorem conditionByte_setPedals {x : Pedals}
    (hd : x.damper.state = .faulted ↔ s.pedals.damper.state = .faulted)
    (hs : x.shift.state = .faulted ↔ s.pedals.shift.state = .faulted) :
    (s.setPedals x).conditionByte = s.conditionByte := by
  have hfault : (s.setPedals x).faultIndication = s.faultIndication := by
    have hdamper : ((s.setPedals x).pedal .damper).state = .faulted ↔ (s.pedal .damper).state = .faulted := hd
    have hshift : ((s.setPedals x).pedal .shift).state = .faulted ↔ (s.pedal .shift).state = .faulted := hs
    simp only [State.faultIndication, hdamper, hshift]
    rfl
  simp only [State.conditionByte, hfault]
  rfl

theorem conditionByte_setPedal {p : Pedal} {x : PedalDrive}
    (h : x.state = .faulted ↔ (s.pedal p).state = .faulted) : (s.setPedal x p).conditionByte = s.conditionByte := by
  cases p
  case damper => exact conditionByte_setPedals h Iff.rfl
  case shift => exact conditionByte_setPedals Iff.rfl h

end

/-! ### Slots, loads and peers -/

section
variable (s : State)

@[simp] theorem conditionByte_placeFrame (i : Slot) (f : Option Payload) :
    (s.placeFrame i f).conditionByte = s.conditionByte := rfl

@[simp] theorem conditionByte_overwriteFrame (i : Slot) (f : Payload) :
    (s.overwriteFrame i f).conditionByte = s.conditionByte := rfl

@[simp] theorem conditionByte_purge : s.purge.conditionByte = s.conditionByte := rfl

@[simp] theorem conditionByte_queueLoad : s.queueLoad.conditionByte = s.conditionByte := by
  simp only [State.queueLoad]
  split <;> simp

@[simp] theorem conditionByte_changeLoad (old new : Nat) : (s.changeLoad old new).conditionByte = s.conditionByte := by
  simp only [State.changeLoad]
  split
  · rfl
  · split <;> simp

theorem conditionByte_onLoadRefresh : s.onLoadRefresh.conditionByte = s.conditionByte := by
  simp only [State.onLoadRefresh]
  split
  · split <;> simp
  · rfl

theorem conditionByte_onPeerAbsent (n : StationNo) : (s.onPeerAbsent n).conditionByte = s.conditionByte := by
  simp only [State.onPeerAbsent]
  split <;> rfl

/-! ### Keys and their monitors -/

/-- A key that enters HOLD from a stroke that is not FAULTED. -/
theorem conditionByte_enterHold {k : Driver} (h : (s.key k).stroke ≠ .faulted) :
    (s.enterHold k).conditionByte = s.conditionByte := by
  simp only [State.enterHold, State.holdKey, conditionByte_changeLoad]
  exact conditionByte_setKey (by simp [h]) rfl

theorem conditionByte_enterReturn {k : Driver} (h : (s.key k).stroke ≠ .faulted) :
    (s.enterReturn k).conditionByte = s.conditionByte := by
  simp only [State.enterReturn, State.removeSounding, State.coilOff, conditionByte_setNotes, conditionByte_changeLoad]
  exact conditionByte_setKey (by simp [h]) rfl

/-- A pulse ends at a key in STRIKE, which goes on to HOLD or RETURN. -/
theorem conditionByte_onPulseEnd (k : Driver) : (s.onPulseEnd k).conditionByte = s.conditionByte := by
  simp only [State.onPulseEnd]
  split
  · next hk =>
    have h : (s.key k).stroke ≠ .faulted := by simp [hk]
    split
    · split
      · exact conditionByte_enterReturn s h
      · exact conditionByte_enterHold s h
    · rfl
  · rfl

@[simp] theorem conditionByte_setOverRun (x : Option Time) (stage : Stage) :
    (s.setOverRun x stage).conditionByte = s.conditionByte := by
  cases stage
  case key k => exact conditionByte_setKey Iff.rfl rfl
  case pedal p => exact conditionByte_setPedal Iff.rfl

theorem conditionByte_onTripCrossing (stage : Stage) (above : Bool) :
    (s.onTripCrossing stage above).conditionByte = s.conditionByte := by
  simp only [State.onTripCrossing]
  (repeat' split) <;> simp

theorem conditionByte_onOpenCrossing (k : Driver) (below : Bool) :
    (s.onOpenCrossing k below).conditionByte = s.conditionByte := by
  simp only [State.onOpenCrossing]
  split
  · exact conditionByte_setKey Iff.rfl rfl
  · rfl

/-! ### Shade -/

@[simp] theorem conditionByte_feedShade (h : Half) : (s.feedShade h).conditionByte = s.conditionByte := by
  simp only [State.feedShade]
  (repeat' split) <;> simp

@[simp] theorem conditionByte_queueShade (h : Half) (f : ShadeFrame) :
    (s.queueShade h f).conditionByte = s.conditionByte := by
  simp only [State.queueShade]
  split <;> simp

@[simp] theorem conditionByte_prune (h : Half) : (s.prune h).conditionByte = s.conditionByte := by
  simp [State.prune]

@[simp] theorem conditionByte_placeSegment (h : Half) (g : Segment) :
    (s.placeSegment h g).conditionByte = s.conditionByte := by
  simp only [State.placeSegment]
  (repeat' split) <;> simp

@[simp] theorem conditionByte_emitSegment (h : Half) (g : Segment) :
    (s.emitSegment h g).conditionByte = s.conditionByte := by
  simp [State.emitSegment]

@[simp] theorem conditionByte_reannounceHalf (h : Half) (valueAt start : Line) :
    (s.reannounceHalf h valueAt start).conditionByte = s.conditionByte := by
  simp only [State.reannounceHalf]
  (repeat' split) <;> simp

@[simp] theorem conditionByte_shadeRollStart : s.shadeRollStart.conditionByte = s.conditionByte := by
  simp [State.shadeRollStart]

@[simp] theorem conditionByte_countLine (h : Half) : (s.countLine h).conditionByte = s.conditionByte := by
  simp only [State.countLine]
  split <;> simp

theorem conditionByte_onKeepCount (h : Half) : (s.onKeepCount h).conditionByte = s.conditionByte := by
  simp only [State.onKeepCount]
  (repeat' split) <;> simp

@[simp] theorem conditionByte_raiseThrough (h : Half) (line : Line) :
    (s.raiseThrough h line).conditionByte = s.conditionByte := by
  simp only [State.raiseThrough]
  (repeat' split) <;> simp

@[simp] theorem conditionByte_takeSegment (h : Half) (g : Segment) :
    (s.takeSegment h g).conditionByte = s.conditionByte := by
  simp only [State.takeSegment]
  (repeat' split) <;> simp

@[simp] theorem conditionByte_takeKeep (h : Half) (line : Line) :
    (s.takeKeep h line).conditionByte = s.conditionByte := by
  simp only [State.takeKeep]
  (repeat' split) <;> simp

/-! ### Pedals -/

/-- A pedal that is not FAULTED is put in a state that is not FAULTED either. -/
theorem conditionByte_drivePedal {p : Pedal} {x : PedalState} {base : Nat} (hp : (s.pedal p).state ≠ .faulted)
    (hx : x ≠ .faulted) : (s.drivePedal p x base).conditionByte = s.conditionByte := by
  simp only [State.drivePedal, conditionByte_changeLoad]
  exact conditionByte_setPedal (by simp [hp, hx])

theorem settledAt_ne_faulted (target : Nat) : settledAt target ≠ .faulted := by
  simp only [settledAt]
  split <;> simp

/-- A FAULTED pedal carries no action out (R108), and no action leaves a pedal FAULTED. -/
@[simp] theorem conditionByte_rampPedal (p : Pedal) (position : Position) :
    (s.rampPedal p position).conditionByte = s.conditionByte := by
  simp only [State.rampPedal]
  split
  · rfl
  · next hat =>
    have hp : (s.pedal p).state ≠ .faulted := fun h => hat (by simp [PedalDrive.isAt, h])
    split
    · exact conditionByte_drivePedal s hp (settledAt_ne_faulted _)
    · exact conditionByte_drivePedal s hp (by simp)

@[simp] theorem conditionByte_actPedal (p : Pedal) (position : Position) (modeAllows : Bool) :
    (s.actPedal p position modeAllows).conditionByte = s.conditionByte := by
  have hcommand : (s.commandPedal p position).conditionByte = s.conditionByte := conditionByte_setPedal Iff.rfl
  simp only [State.actPedal]
  split <;> simp [hcommand]

/-- Changing a pedal's queue of events. -/
@[simp] theorem conditionByte_setEvents (p : Pedal) (events : List PedalEvent) :
    (s.setPedal { s.pedal p with events } p).conditionByte = s.conditionByte :=
  conditionByte_setPedal Iff.rfl

@[simp] theorem conditionByte_takePedalEvent (p : Pedal) : (s.takePedalEvent p).conditionByte = s.conditionByte := by
  simp only [State.takePedalEvent]
  split <;> simp

@[simp] theorem conditionByte_actIfFirst (p : Pedal) (line : Line) :
    (s.actIfFirst p line).conditionByte = s.conditionByte := by
  simp only [State.actIfFirst]
  (repeat' split) <;> simp

@[simp] theorem conditionByte_enterPedalEvent (m : PedalMove) :
    (s.enterPedalEvent m).conditionByte = s.conditionByte := by
  simp only [State.enterPedalEvent, conditionByte_actIfFirst, apply_ite State.conditionByte, conditionByte_count,
    conditionByte_setEvents, ite_self]

@[simp] theorem conditionByte_timePedalEvents (line : Line) (p : Pedal) :
    (s.timePedalEvents line p).conditionByte = s.conditionByte := by
  simp only [State.timePedalEvents]
  split <;> simp

@[simp] theorem conditionByte_emptyPedalEvents : s.emptyPedalEvents.conditionByte = s.conditionByte := by
  simp [State.emptyPedalEvents]

@[simp] theorem conditionByte_feedPedal : s.feedPedal.conditionByte = s.conditionByte := by
  simp only [State.feedPedal]
  split
  · rfl
  · split <;> rfl

@[simp] theorem conditionByte_queuePedal (m : PedalMove) : (s.queuePedal m).conditionByte = s.conditionByte := by
  simp only [State.queuePedal, conditionByte_feedPedal]
  (repeat' split) <;> rfl

@[simp] theorem conditionByte_emitPedal (m : PedalMove) : (s.emitPedal m).conditionByte = s.conditionByte := by
  simp only [State.emitPedal]
  split <;> simp

@[simp] theorem conditionByte_reannouncePedals (line : Line) :
    (s.reannouncePedals line).conditionByte = s.conditionByte := by
  simp only [State.reannouncePedals]
  split
  · simp only [conditionByte_emitPedal]
    rfl
  · rfl

@[simp] theorem conditionByte_takePedalFrame (e : Entry) (p : Pedal) (code : BitVec 2) (line : Line) :
    (s.takePedalFrame e p code line).conditionByte = s.conditionByte := by
  simp only [State.takePedalFrame]
  (repeat' split) <;> simp

/-! ### The roll -/

@[simp] theorem conditionByte_announceLine : s.announceLine.conditionByte = s.conditionByte := by
  simp [State.announceLine]

theorem conditionByte_nextLine : s.nextLine.conditionByte = s.conditionByte := by
  simp only [State.nextLine]
  split <;> simp

theorem conditionByte_rollStart : s.rollStart.conditionByte = s.conditionByte := by
  simp [State.rollStart]

/-- A strobe, whether it is rejected, starts the roll or numbers the next line. -/
theorem conditionByte_onStrobe : s.onStrobe.conditionByte = s.conditionByte := by
  simp only [State.onStrobe]
  split
  · split
    · rfl
    · split
      · exact conditionByte_rollStart s
      · exact conditionByte_nextLine s
  · rfl

/-! ### The converter and the probes -/

@[simp] theorem conditionByte_beginConversion (source : Source) (probe : Option ProbeId) :
    (s.beginConversion source probe).conditionByte = s.conditionByte := rfl

theorem conditionByte_onSampleDue : s.onSampleDue.conditionByte = s.conditionByte := by
  simp only [State.onSampleDue]
  (repeat' split) <;> simp

@[simp] theorem conditionByte_endConversion (x : Conversion) :
    (s.endConversion x).conditionByte = s.conditionByte := by
  simp only [State.endConversion, State.beginSample, State.beginProbe]
  (repeat' split) <;> simp

@[simp] theorem conditionByte_requestProbe (source : Source) (probe : ProbeId) :
    (s.requestProbe source probe).conditionByte = s.conditionByte := by
  simp only [State.requestProbe]
  split <;> simp

@[simp] theorem conditionByte_purgeFor (x : HeldProbe) : (s.purgeFor x).conditionByte = s.conditionByte := by
  simp only [State.purgeFor]
  split <;> simp

/-- An answer carries the report marks and does not clear them. -/
@[simp] theorem conditionByte_answerProbe (x : HeldProbe) : (s.answerProbe x).conditionByte = s.conditionByte := by
  simp only [State.answerProbe]
  split
  · rfl
  all_goals simp

@[simp] theorem conditionByte_takeProbe (e : Entry) (target : StationNo) (item argument : Byte) :
    (s.takeProbe e target item argument).conditionByte = s.conditionByte := by
  simp only [State.takeProbe]
  (repeat' split) <;> simp

theorem conditionByte_onProbeConversion (value : Int) : (s.onProbeConversion value).conditionByte = s.conditionByte := by
  simp only [State.onProbeConversion]
  (repeat' split) <;> simp

/-! ### The line and the intake -/

theorem conditionByte_takeNext : s.takeNext.conditionByte = s.conditionByte := by
  simp only [State.takeNext]
  split
  · exact conditionByte_setLink rfl
  · rfl

theorem conditionByte_onHandlingEnd : s.onHandlingEnd.conditionByte = s.conditionByte := by
  simp only [State.onHandlingEnd]
  split
  · split
    · exact conditionByte_takeNext _
    · rfl
  · rfl

theorem conditionByte_onLineIdle : s.onLineIdle.conditionByte = s.conditionByte := by
  simp only [State.onLineIdle]
  split
  · exact conditionByte_setLink rfl
  · rfl

theorem conditionByte_breakFrame : s.breakFrame.conditionByte = s.conditionByte := conditionByte_setLink rfl

/-- The frame in handling leaves the byte as it is when each of its effects does. -/
theorem conditionByte_handle {act : Entry → Option (State → State)}
    (h : ∀ e f u, act e = some f → (f u).conditionByte = u.conditionByte) :
    (s.handle act).conditionByte = s.conditionByte :=
  State.handle_preserves (P := fun t => t.conditionByte = s.conditionByte) rfl fun e f _ hf => h e f _ hf

/-! ### Outcomes -/

/-- A change of the condition byte by an event that leaves the station in a mode that queues notices leaves a NOTICE of the
byte after it (R180). -/
def Noticed (o : Host.Outcome State Fault Refusal) : Prop :=
  ∀ t, o = .next t → t.mode.active = true → t.conditionByte ≠ s.conditionByte → t.noticeStands t.conditionByte

theorem noticed_notify (cause : Cause) (u : State) : Noticed s (.next (State.notify s cause u)) := by
  rintro _ ⟨⟩ hactive hchanged
  rw [State.conditionByte_notify] at hchanged ⊢
  exact State.noticeStands_notify (by simpa using hactive) hchanged

variable {s}

theorem noticed_of_same {u : State} (h : u.conditionByte = s.conditionByte) : Noticed s (.next u) := by
  rintro _ ⟨⟩ - hchanged
  exact absurd h hchanged

/-- The timebase is no part of the byte, so an event whose act keeps the byte changes nothing of it. -/
theorem noticed_event {now : Time} {act : State → State}
    (h : (act (s.setNow now)).conditionByte = (s.setNow now).conditionByte) : Noticed s (.next (s.event now act)) :=
  noticed_of_same h

/-- A reset or a RESTART acts, and leaves the station in LOADING, or it changes nothing. -/
theorem noticed_of_loading_or_same {u : State} (h : u.mode = .loading ∨ u.conditionByte = s.conditionByte) :
    Noticed s (.next u) := by
  rcases h with hmode | hsame
  · rintro _ ⟨⟩ hactive
    simp [hmode, Mode.active] at hactive
  · exact noticed_of_same hsame

theorem noticed_handle {now : Time} {act : Entry → Option (State → State)}
    (h : ∀ e f u, act e = some f → (f u).conditionByte = u.conditionByte) :
    Noticed s (.next (s.event now fun u => u.handle act)) :=
  noticed_event (conditionByte_handle _ h)

end

end Sys2Proof.Machine.ConditionByte

namespace Sys2Proof.Machine

open ConditionByte

/-- Every command either passes through `State.notify`, or keeps the condition byte, or resets the station. -/
theorem noticed_exec (c : Instr) (s : State) : Noticed s (exec c s) := by
  cases c with
  | storeRead | captureSweepComplete | stall | holdOverEnd | armEvent | fireEvent | releaseEvent | returnEnd
  | overcurrentDetection | pedalOvercurrent | openLoadWarning | rampStep | supplySample | temperatureSample | play
  | stop | clear | halt | claimFrame | loadFrame | attemptStart | arbitrationLost | attemptEnd | frameDelivery =>
    exact noticed_notify s _ _
  | reset now straps => exact noticed_of_loading_or_same (.inl rfl)
  | restart now straps =>
    exact noticed_of_loading_or_same
      (State.transport_preserves (P := fun t => t.mode = .loading ∨ t.conditionByte = s.conditionByte) (.inr rfl)
        (.inr rfl) fun _ => .inl rfl)
  | strobe now => exact noticed_event (conditionByte_onStrobe _)
  | keepCountExpiry now h => exact noticed_event (conditionByte_onKeepCount _ h)
  | pulseEnd now k => exact noticed_event (conditionByte_onPulseEnd _ k)
  | tripCurrentCrossing now stage above => exact noticed_event (conditionByte_onTripCrossing _ stage above)
  | openCurrentCrossing now k below => exact noticed_event (conditionByte_onOpenCrossing _ k below)
  | pedalActionEvent now p => exact noticed_event (by split <;> simp)
  | loadRefresh now => exact noticed_event (conditionByte_onLoadRefresh _)
  | peerAbsent now peer => exact noticed_event (conditionByte_onPeerAbsent _ peer)
  | sampleDue now => exact noticed_event (conditionByte_onSampleDue _)
  | probeConversion now value => exact noticed_event (conditionByte_onProbeConversion _ value)
  | trim now =>
    exact noticed_event
      (State.transport_preserves (P := fun t => t.conditionByte = s.conditionByte) rfl rfl fun _ => rfl)
  | probe | shadeSegment | shadeKeep | pedalFrame | noticeFrame | replyFrame =>
    refine noticed_handle fun e f u hf => ?_
    split at hf <;> cases hf
    simp [apply_ite State.conditionByte]
  | handlingEnd now => exact noticed_event (conditionByte_onHandlingEnd _)
  | brokenFrame now => exact noticed_event (by split <;> simp [conditionByte_breakFrame])
  | lineIdle now => exact noticed_event (conditionByte_onLineIdle _)

/-- Settles O60: the byte is read field by field, and of the commands that do not notify none changes it but a reset, which
leaves the station in LOADING. -/
theorem everyConditionChangeIsNoticed : Obligations.EveryConditionChangeIsNoticed := by
  intro c s t
  refine ⟨?_, noticed_exec c s t⟩
  obtain ⟨hmode, hfault, hwarn, hsupply, hlink, hsched⟩ := fields_conditionByte s
  rw [hmode, hfault, hwarn, hsupply, hlink, hsched]
  exact ⟨by cases s.mode <;> rfl, faultIndication_iff s, warnIndication_iff s, supplyIndication_iff s,
    linkIndication_iff s, Iff.rfl⟩

end Sys2Proof.Machine
end

section
/-! The probe conversion: the value sensed, the answer by the state of the REPLY slot, and what the converter begins next
(8.1, 10.4). -/

namespace Sys2Proof.Machine.ProbeAnswer

open KeyDrive PedalAction

/-! ### The answer by the state of the REPLY slot (R144, R179, R181) -/

theorem coilOn_pedal (s : State) (p : Pedal) : s.coilOn (.pedal p) = (s.pedal p).state.energized := by
  cases h : (s.pedal p).state <;> simp [State.coilOn, PedalState.energized, h]

@[simp] theorem slot_carryMarks (s : State) (i : Slot) : s.carryMarks.slot i = s.slot i := rfl

section
variable {s : State} {x : HeldProbe}

theorem purgeFor_of_ne (hitem : x.probe.item ≠ 3) : s.purgeFor x = s := if_neg hitem

theorem answerProbe_of_sending (h : (s.slot .reply).state = .sending) :
    s.answerProbe x = s.setControl { s.control with heldProbe := some x } := by
  simp [State.answerProbe, h]

theorem answerProbe_of_queued (hitem : x.probe.item ≠ 3) (h : (s.slot .reply).state = .queued) :
    s.answerProbe x = (s.overwriteFrame .reply (s.replyFrame x)).carryMarks := by
  simp [State.answerProbe, purgeFor_of_ne hitem, h]

theorem answerProbe_of_free (hitem : x.probe.item ≠ 3) (h : (s.slot .reply).state.free = true) :
    s.answerProbe x = (s.placeFrame .reply (some (s.replyFrame x))).carryMarks := by
  revert h
  simp only [State.answerProbe, purgeFor_of_ne hitem]
  cases (s.slot .reply).state <;> simp [SlotState.free]

theorem slotState_cases (x : SlotState) : x.free = true ∨ x = .queued ∨ x = .sending := by
  cases x <;> simp [SlotState.free]

/-- An answer touches the REPLY slot and station control's marks and held frames alone. -/
theorem answerProbe_touches (hitem : x.probe.item ≠ 3) :
    SlotsOnly [.reply] s (s.answerProbe x) ∧ ChangesOnly [.link, .control] s (s.answerProbe x) := by
  rcases slotState_cases (s.slot .reply).state with h | h | h
  · rw [answerProbe_of_free hitem h]
    exact ⟨(s.slotsOnly_placeFrame _ _).trans (.of_link rfl), fun p hp => by cases p <;> simp_all [Part.same]⟩
  · rw [answerProbe_of_queued hitem h]
    exact ⟨(s.slotsOnly_overwriteFrame _ _).trans (.of_link rfl), fun p hp => by cases p <;> simp_all [Part.same]⟩
  · rw [answerProbe_of_sending h]
    exact ⟨.of_link rfl, fun p hp => by cases p <;> simp_all [Part.same]⟩

end

/-- A probe ready with its converted value gets the reply of R181. -/
theorem answersProbe_answerProbe (s : State) {id : ProbeId} (value : Int) (hitem : id.item ≠ 3) :
    AnswersProbe s (s.answerProbe { probe := id, sensed := some value }) id (some value) value := by
  have hfree := answerProbe_of_free (s := s) (x := { probe := id, sensed := some value }) hitem
  have hqueued := answerProbe_of_queued (s := s) (x := { probe := id, sensed := some value }) hitem
  obtain ⟨⟨hother, -⟩, -⟩ := answerProbe_touches (s := s) (x := { probe := id, sensed := some value }) hitem
  refine ⟨fun h => ?_, fun h => ?_, fun h => ?_, fun h => ?_, fun i hi => hother i (by simpa using hi)⟩
  · simp [hfree h, State.replyFrame]
  · simp [hqueued h, State.replyFrame]
  · rcases slotState_cases (s.slot .reply).state with hf | hq | hs
    · rw [hfree hf]
      rfl
    · rw [hqueued hq]
      rfl
    · exact absurd hs h
  · rw [answerProbe_of_sending h]
    exact ⟨rfl, rfl⟩

/-- Of the state after it, an answer tells of the slots, the marks and the time. -/
theorem answersProbe_congr {s t u : State} {id : ProbeId} {sensed : Option Int} {value : Int}
    (hnow : t.now = u.now) (hlink : t.link = u.link) (hcontrol : t.control = u.control)
    (h : AnswersProbe s u id sensed value) : AnswersProbe s t id sensed value := by
  simpa only [AnswersProbe, State.slot, hnow, hlink, hcontrol] using h

/-! ### What the converter begins after a probe conversion (R142) -/

section
variable {s : State} {x : Conversion} {id : ProbeId}

theorem endConversion_of_sample {d : DueSample} {rest : List DueSample} (hx : x.probe = some id)
    (hw : s.conv.waiting = d :: rest) :
    s.endConversion x =
      (s.setConv { s.conv with inFlight := none, waiting := rest }).beginConversion d.source none := by
  simp only [State.endConversion, State.beginSample, hx, State.setConv_conv, hw]
  rfl

theorem endConversion_of_probe {j : ProbeJob} (hx : x.probe = some id) (hw : s.conv.waiting = [])
    (hj : s.conv.waitingProbe = some j) :
    s.endConversion x =
      (s.setConv { s.conv with inFlight := none, waitingProbe := none }).beginConversion j.source (some j.probe) := by
  simp only [State.endConversion, State.beginSample, State.beginProbe, hx, State.setConv_conv, hw, hj]
  rfl

theorem endConversion_of_idle (hx : x.probe = some id) (hw : s.conv.waiting = [])
    (hj : s.conv.waitingProbe = none) : s.endConversion x = s.setConv { s.conv with inFlight := none } := by
  simp only [State.endConversion, State.beginSample, State.beginProbe, hx, State.setConv_conv, hw, hj]
  rfl

theorem beginsConversion_beginConversion {u : State} (hlast : u.conv.lastSource = s.conv.lastSource) (source : Source)
    (probe : Option ProbeId) : BeginsConversion s (u.beginConversion source probe) u.now source probe :=
  ⟨by simp [State.beginConversion, hlast, Config.settleTime, Config.conversionTime], rfl⟩

/-- After a probe conversion the waiting samples go before the waiting probe. `u` is the state the answer left, its
converter as in `s`. -/
theorem endConversion_next {u : State} {now : Time} (hconv : u.conv = s.conv) (hnow : u.now = now)
    (hx : x.probe = some id) :
    (∀ (d : DueSample) (rest : List DueSample), s.conv.waiting = d :: rest →
      BeginsConversion s (u.endConversion x) now d.source none ∧ (u.endConversion x).conv.waiting = rest ∧
        (u.endConversion x).conv.waitingProbe = s.conv.waitingProbe) ∧
    (∀ j : ProbeJob, s.conv.waiting = [] → s.conv.waitingProbe = some j →
      BeginsConversion s (u.endConversion x) now j.source (some j.probe) ∧ (u.endConversion x).conv.waiting = [] ∧
        (u.endConversion x).conv.waitingProbe = none) ∧
    (s.conv.waiting = [] → s.conv.waitingProbe = none →
      (u.endConversion x).conv = { s.conv with inFlight := none }) := by
  subst hnow
  rw [← hconv]
  refine ⟨fun d rest hw => ?_, fun j hw hj => ?_, fun hw hj => ?_⟩
  · rw [endConversion_of_sample hx hw]
    exact ⟨beginsConversion_beginConversion (congrArg Converter.lastSource hconv) d.source none, rfl, rfl⟩
  · rw [endConversion_of_probe hx hw hj]
    exact ⟨beginsConversion_beginConversion (congrArg Converter.lastSource hconv) j.source _, hw, rfl⟩
  · rw [endConversion_of_idle hx hw hj]
    rfl

end

/-- The converter's choice changes no held value and leaves the schedule. -/
theorem endConversion_holds (s : State) (x : Conversion) :
    (s.endConversion x).conv.schedule = s.conv.schedule ∧ (s.endConversion x).conv.vMeas = s.conv.vMeas ∧
      (s.endConversion x).conv.temps = s.conv.temps := by
  simp only [State.endConversion, State.beginSample, State.beginProbe]
  (repeat' split) <;> simp [State.beginConversion]

theorem changesOnly_endConversion (s : State) (x : Conversion) : ChangesOnly [.conv] s (s.endConversion x) := by
  intro p hp
  cases p <;> simp_all [Part.same]

theorem exec_probeConversion {s : State} {now : Time} {value : Int} {x : Conversion} {id : ProbeId}
    (hflight : s.conv.inFlight = some x) (hx : x.probe = some id) (hends : reached now x.ends = true) :
    exec (.probeConversion now value) s =
      .next (((s.setNow now).answerProbe { probe := id, sensed := some (s.sensed x.source value) }).endConversion x) := by
  have hdone : (s.setNow now).conversionDone = some x := by
    simp [State.conversionDone, hflight, hends]
  have hact : (s.setNow now).onProbeConversion value =
      ((s.setNow now).answerProbe { probe := id, sensed := some (s.sensed x.source value) }).endConversion x := by
    simp only [State.onProbeConversion, hdone, hx]
    rfl
  exact congrArg Host.Outcome.next hact

end Sys2Proof.Machine.ProbeAnswer

namespace Sys2Proof.Machine

open KeyDrive PedalAction ProbeAnswer

/-- Settles O34, by the answer that the state of the REPLY slot gives and by what then waits for the converter. -/
theorem probeConversionAnswers : Obligations.ProbeConversionAnswers := by
  intro s now value x id hflight hx hends hitem
  refine ⟨?_, _, exec_probeConversion hflight hx hends, by simp, ?_⟩
  · obtain ⟨source, probe, ends⟩ := x
    rcases source with _ | cl | (k | p)
    case stage.pedal => simp only [State.sensed, coilOn_pedal]
    all_goals rfl
  · have hanswer := answersProbe_answerProbe (s.setNow now) (s.sensed x.source value) hitem
    obtain ⟨hslots, hparts⟩ :=
      answerProbe_touches (s := s.setNow now) (x := { probe := id, sensed := some (s.sensed x.source value) }) hitem
    generalize hu : (s.setNow now).answerProbe { probe := id, sensed := some (s.sensed x.source value) } = u at *
    have hnow : u.now = now := by simp [← hu]
    have hconv : u.conv = s.conv := by simp [← hu]
    obtain ⟨hsample, hprobe, hidle⟩ := endConversion_next hconv hnow hx
    obtain ⟨hschedule, hvMeas, htemps⟩ := endConversion_holds u x
    rw [hconv] at hschedule hvMeas htemps
    exact ⟨answersProbe_congr (by simp) (by simp) (by simp) hanswer, hsample, hprobe, hidle, hschedule, hvMeas, htemps,
      hslots.trans (.of_link (by simp)),
      changesOnly_mono (changesOnly_append hparts (changesOnly_endConversion u x)) (by simp)⟩

end Sys2Proof.Machine
end

section
/-! The frame on the line: what a receiver finds in the bits of a frame as a station sends it (R156, R157, R160,
11.4). -/

namespace Sys2Proof.Machine.FrameRead

/-! ### Words and their bits -/

@[simp] theorem length_bitsOf {w : Nat} (x : BitVec w) : (bitsOf x).length = w := by
  simp [bitsOf]

/-- The `k` most significant bits, read as a number. -/
theorem foldl_leading_bits {w : Nat} (x : BitVec w) {k : Nat} (hk : k ≤ w) :
    ((List.range k).map fun i => x.getLsbD (w - 1 - i)).foldl (fun n b => 2 * n + b.toNat) 0 =
      x.toNat / 2 ^ (w - k) := by
  induction k with
  | zero => simp [Nat.div_eq_of_lt x.isLt]
  | succ k ih =>
    have hplace : w - k = w - (k + 1) + 1 := by omega
    have hbit : w - 1 - k = w - (k + 1) := by omega
    rw [List.range_succ, List.map_append, List.foldl_append, ih (by omega), hplace, Nat.pow_succ,
      ← Nat.div_div_eq_div_mul]
    simp only [List.map_cons, List.map_nil, List.foldl_cons, List.foldl_nil, hbit, BitVec.getLsbD,
      Nat.testBit_eq_decide_div_mod_eq]
    rcases Nat.mod_two_eq_zero_or_one (x.toNat / 2 ^ (w - (k + 1))) with h | h <;> simp [h] <;> omega

@[simp] theorem wordOf_bitsOf {w : Nat} (x : BitVec w) : wordOf w (bitsOf x) = x := by
  simp [wordOf, bitsOf, foldl_leading_bits x (Nat.le_refl w)]

/-! ### Payloads (11.4) -/

theorem pairOf_extract (x : BitVec 16) : pairOf (x.extractLsb' 8 8) (x.extractLsb' 0 8) = x :=
  BitVec.extractLsb'_append_extractLsb'

theorem join_field12 (x : BitVec 12) :
    (((x.extractLsb' 8 4).extractLsb' 0 4 ++ x.extractLsb' 0 8).cast (by decide) : BitVec 12) = x := by
  rw [BitVec.extractLsb'_eq_self]
  exact BitVec.extractLsb'_append_extractLsb'

theorem join_field24 (x : BitVec 24) :
    ((x.extractLsb' 16 8 ++ (x.extractLsb' 8 8 ++ x.extractLsb' 0 8)).cast (by decide) : BitVec 24) = x := by
  have hlow : x.extractLsb' 8 8 ++ x.extractLsb' 0 8 = x.extractLsb' 0 16 :=
    BitVec.extractLsb'_append_extractLsb'_eq_extractLsb' rfl
  rw [hlow]
  exact BitVec.extractLsb'_append_extractLsb'

theorem halfOfBit_halfBit (h : Half) : halfOfBit (halfBit h)[0] = h := by
  cases h <;> rfl

theorem pedalOfBit_pedalBit (p : Pedal) : pedalOfBit (pedalBit p)[0] = p := by
  cases p <;> rfl

theorem getElem_bit (b : Bool) : (bit b)[0] = b := by
  cases b <;> rfl

theorem length_bytes_le (f : Payload) : f.bytes.length ≤ 6 := by
  cases f <;> simp [Payload.bytes]

/-- The bytes of a payload spell it: each field is read at the places it was packed into. -/
theorem payloadOf_bytes (f : Payload) : payloadOf f.class f.bytes = some f := by
  cases f with
  | halt | transport | notice => rfl
  | segment | keep | pedal | claim | load | probe | reply =>
    simp (disch := decide) only [payloadOf, Payload.class, Payload.bytes, BitVec.ofNat_eq_ofNat, BitVec.reduceToNat,
      BitVec.extractLsb'_append_eq_of_add_le, BitVec.extractLsb'_append_eq_of_le, BitVec.extractLsb'_cast,
      BitVec.getLsbD_append, BitVec.getLsbD_cast, pairOf_extract, join_field12, join_field24] <;>
    simp [halfOfBit_halfBit, pedalOfBit_pedalBit, getElem_bit]

/-! ### The bits of a frame and their places (R156) -/

/-- A header and framed bytes behind a start bit. -/
def frameBits (header : List Bool) (body : List Byte) : List Bool := false :: (header ++ body.flatMap framedByte)

/-- Payload and check, in the order sent. -/
def bodyBytes (sender : StationNo) (f : Payload) : List Byte :=
  f.bytes ++ [(frameCheck sender f).extractLsb' 8 8, (frameCheck sender f).extractLsb' 0 8]

theorem encodeFrame_eq (sender : StationNo) (f : Payload) :
    encodeFrame sender f = frameBits (headerBits sender f) (bodyBytes sender f) := by
  simp [encodeFrame, frameBits, bodyBytes]

@[simp] theorem length_headerBits (sender : StationNo) (f : Payload) : (headerBits sender f).length = 10 := by
  simp [headerBits]

@[simp] theorem length_bodyBytes (sender : StationNo) (f : Payload) :
    (bodyBytes sender f).length = f.bytes.length + 2 := by
  simp [bodyBytes]

@[simp] theorem length_framedByte (b : Byte) : (framedByte b).length = 10 := by
  simp [framedByte]

theorem getElem?_flatMap_framedByte (body : List Byte) (j k : Nat) (hk : k < 10) :
    (body.flatMap framedByte)[10 * j + k]? = body[j]?.bind fun b => (framedByte b)[k]? := by
  induction body generalizing j with
  | nil => simp
  | cons b body ih =>
    cases j with
    | zero => simp [List.getElem?_append_left, hk]
    | succ j =>
      have hplace : 10 * (j + 1) + k = (framedByte b).length + (10 * j + k) := by
        rw [length_framedByte]
        omega
      rw [List.flatMap_cons, hplace, List.getElem?_append_right (by omega), Nat.add_sub_cancel_left, ih]
      rfl

/-- The bits read where a piece of a longer list stands are that piece. -/
theorem bitsAt_of_getElem? {bits piece : List Bool} {i : Nat} (h : ∀ k < piece.length, bits[i + k]? = piece[k]?) :
    bitsAt bits i piece.length = piece := by
  refine List.ext_getElem (by simp [bitsAt]) fun k hk hk' => ?_
  simp [bitsAt, bitAt, List.getD_eq_getElem?_getD, h k hk', List.getElem?_eq_getElem hk']

theorem bitsAt_append (front piece back : List Bool) :
    bitsAt (front ++ (piece ++ back)) front.length piece.length = piece :=
  bitsAt_of_getElem? fun k hk => by
    rw [List.getElem?_append_right (by omega), Nat.add_sub_cancel_left, List.getElem?_append_left hk]

section
variable {header : List Bool} {body : List Byte} {j : Nat} {b : Byte}

theorem getElem?_frameBits (hheader : header.length = 10) (hb : body[j]? = some b) {k : Nat} (hk : k < 10) :
    (frameBits header body)[byteStart j + k]? = (framedByte b)[k]? := by
  have hplace : byteStart j + k = header.length + (10 * j + k) + 1 := by
    rw [hheader, byteStart]
    omega
  rw [frameBits, hplace, List.getElem?_cons_succ, List.getElem?_append_right (by omega), Nat.add_sub_cancel_left,
    getElem?_flatMap_framedByte body j k hk, hb]
  rfl

theorem bitAt_lead (hheader : header.length = 10) (hb : body[j]? = some b) :
    bitAt (frameBits header body) (byteStart j) = false := by
  have h := getElem?_frameBits hheader hb (k := 0) (by decide)
  rw [Nat.add_zero] at h
  simp [bitAt, List.getD_eq_getElem?_getD, h, framedByte]

theorem bitAt_tail (hheader : header.length = 10) (hb : body[j]? = some b) :
    bitAt (frameBits header body) (byteStart j + 9) = true := by
  simp [bitAt, List.getD_eq_getElem?_getD, getElem?_frameBits hheader hb (k := 9) (by decide), framedByte]

/-- The data bits of a byte stand behind its lead bit. -/
theorem bitsAt_byte (hheader : header.length = 10) (hb : body[j]? = some b) :
    bitsAt (frameBits header body) (byteStart j + 1) 8 = bitsOf b := by
  have h : bitsAt (frameBits header body) (byteStart j + 1) (bitsOf b).length = bitsOf b :=
    bitsAt_of_getElem? fun k hk => by
      rw [length_bitsOf] at hk
      rw [Nat.add_assoc, getElem?_frameBits hheader hb (by omega), framedByte, Nat.add_comm 1 k, List.getElem?_cons_succ,
        List.getElem?_append_left (by simpa using hk)]
  rwa [length_bitsOf] at h

theorem readByte_frameBits (hheader : header.length = 10) (hb : body[j]? = some b) :
    readByte (frameBits header body) j = b := by
  rw [readByte, bitsAt_byte hheader hb, wordOf_bitsOf]

/-- The bit that tells the kinds of a class apart is the first data bit of the first byte. -/
theorem bitAt_kind (hheader : header.length = 10) (hb : body[0]? = some b) :
    bitAt (frameBits header body) (byteStart 0 + 1) = b.getLsbD 7 := by
  simp [bitAt, List.getD_eq_getElem?_getD, getElem?_frameBits hheader hb (k := 1) (by decide), framedByte, bitsOf]

theorem framingDamage_frameBits (hheader : header.length = 10) (count : Nat) (h : j + count ≤ body.length) :
    framingDamage (frameBits header body) j count = none := by
  induction count generalizing j with
  | zero => rfl
  | succ count ih =>
    have hb : body[j]? = some body[j] := List.getElem?_eq_getElem (by omega)
    simp [framingDamage, bitAt_lead hheader hb, bitAt_tail hheader hb, ih (j := j + 1) (by omega)]

/-- No run of more than nine recessive bits stands in a frame whose header holds a dominant bit: each ten bits in a row
hold the start bit, or are the header, or hold the lead bit of a byte. -/
theorem hasLongRun_frameBits (hheader : header.length = 10) (hdominant : header.all id = false) :
    hasLongRun (frameBits header body) (byteStart body.length - 1) = false := by
  rw [hasLongRun, List.any_eq_false]
  intro i hi
  rw [List.mem_range, byteStart] at hi
  have hwindow : ∀ k, k < 10 → bitAt (frameBits header body) (i + k) = false →
      ¬ (bitsAt (frameBits header body) i 10).all id = true := fun k hk hbit hall => by
    have := List.all_eq_true.mp hall _ (List.mem_map_of_mem (List.mem_range.mpr hk))
    simp [hbit] at this
  match i, hi with
  | 0, _ => exact hwindow 0 (by decide) rfl
  | 1, _ =>
    have h : bitsAt (frameBits header body) 1 10 = header := by
      rw [← hheader]
      exact bitsAt_append [false] header (body.flatMap framedByte)
    rw [h, hdominant]
    exact Bool.false_ne_true
  | i + 2, hi =>
    have hb : body[i / 10]? = some body[i / 10] := List.getElem?_eq_getElem (by omega)
    have hplace : i + 2 + (9 - i % 10) = byteStart (i / 10) := by
      rw [byteStart]
      omega
    refine hwindow (9 - i % 10) (by omega) ?_
    rw [hplace, bitAt_lead hheader hb]

end

/-! ### What a receiver reads (R160) -/

section
variable (sender : StationNo) (f : Payload)

theorem getElem?_bodyBytes {j : Nat} (hj : j < f.bytes.length) : (bodyBytes sender f)[j]? = some f.bytes[j] := by
  rw [bodyBytes, List.getElem?_append_left hj, List.getElem?_eq_getElem hj]

theorem readClass_encodeFrame : readClass (encodeFrame sender f) = f.class := by
  have h := bitsAt_append [false] (bitsOf f.class)
    (bitsOf sender ++ (bitsOf (BitVec.ofNat 3 f.bytes.length) ++ (bodyBytes sender f).flatMap framedByte))
  rw [length_bitsOf] at h
  rw [readClass, encodeFrame_eq, frameBits, headerBits]
  simpa using congrArg (wordOf 3) h

theorem readSender_encodeFrame : wordOf 4 (bitsAt (encodeFrame sender f) 4 4) = sender := by
  have h := bitsAt_append (false :: bitsOf f.class) (bitsOf sender)
    (bitsOf (BitVec.ofNat 3 f.bytes.length) ++ (bodyBytes sender f).flatMap framedByte)
  rw [List.length_cons, length_bitsOf, length_bitsOf] at h
  rw [encodeFrame_eq, frameBits, headerBits]
  simpa using congrArg (wordOf 4) h

theorem readLength_encodeFrame : readLength (encodeFrame sender f) = f.bytes.length := by
  have h := bitsAt_append (false :: (bitsOf f.class ++ bitsOf sender)) (bitsOf (BitVec.ofNat 3 f.bytes.length))
    ((bodyBytes sender f).flatMap framedByte)
  simp only [List.length_cons, List.length_append, length_bitsOf] at h
  have hfits : f.bytes.length < 8 := Nat.lt_of_le_of_lt (length_bytes_le f) (by decide)
  rw [readLength, encodeFrame_eq, frameBits, headerBits]
  simpa [Nat.mod_eq_of_lt hfits] using congrArg (fun bits => (wordOf 3 bits).toNat) h

theorem readPayload_encodeFrame : readPayload (encodeFrame sender f) = f.bytes := by
  rw [readPayload, readLength_encodeFrame, encodeFrame_eq]
  refine List.ext_getElem (by simp) fun j hj hj' => ?_
  simp [readByte_frameBits (length_headerBits sender f) (getElem?_bodyBytes sender f hj')]

theorem checkDamage_encodeFrame : checkDamage (encodeFrame sender f) = false := by
  have hheader : bitsAt (encodeFrame sender f) 1 10 = headerBits sender f := by
    have h := bitsAt_append [false] (headerBits sender f) ((bodyBytes sender f).flatMap framedByte)
    rwa [length_headerBits, ← List.singleton_append] at h
  have hhigh : readByte (encodeFrame sender f) f.bytes.length = (frameCheck sender f).extractLsb' 8 8 := by
    rw [encodeFrame_eq]
    exact readByte_frameBits (length_headerBits sender f) (by simp [bodyBytes])
  have hlow : readByte (encodeFrame sender f) (f.bytes.length + 1) = (frameCheck sender f).extractLsb' 0 8 := by
    rw [encodeFrame_eq]
    exact readByte_frameBits (length_headerBits sender f) (by simp [bodyBytes])
  simp [checkDamage, readLength_encodeFrame, readPayload_encodeFrame, hheader, hhigh, hlow, pairOf_extract, frameCheck]

/-- The length of every kind is its own, and a kind of two is told by its first byte (R160, R188). -/
theorem lengthDamage_encodeFrame : lengthDamage (encodeFrame sender f) = none := by
  have hkind : ∀ b rest, f.bytes = b :: rest → bitAt (encodeFrame sender f) (byteStart 0 + 1) = b.getLsbD 7 :=
    fun b rest hf => by
      rw [encodeFrame_eq]
      exact bitAt_kind (length_headerBits sender f) (by simp [bodyBytes, hf])
  cases f with
  | halt | pedal | claim | load | transport | notice =>
    simp [lengthDamage, readLength_encodeFrame, readClass_encodeFrame, Payload.class, Payload.bytes]
  | segment | keep | probe | reply =>
    simp only [lengthDamage, readLength_encodeFrame, readClass_encodeFrame, hkind _ _ rfl, BitVec.getLsbD_cast,
      BitVec.getLsbD_append]
    simp [Payload.class, Payload.bytes]

theorem headerBits_dominant : (headerBits sender f).all id = false := by
  have hlength : ∀ n ≤ 6, (bitsOf (BitVec.ofNat 3 n)).all id = false := by decide
  simp [headerBits, hlength _ (length_bytes_le f)]

/-- A frame that a station sends is read as itself (R160). -/
theorem readFrame_encodeFrame : readFrame (encodeFrame sender f) = .good sender f := by
  have hframing : framingDamage (encodeFrame sender f) 0 (f.bytes.length + 2) = none := by
    rw [encodeFrame_eq]
    exact framingDamage_frameBits (length_headerBits sender f) _ (by simp)
  have hrun : hasLongRun (encodeFrame sender f) (byteStart (f.bytes.length + 2) - 1) = false := by
    rw [encodeFrame_eq, ← length_bodyBytes sender f]
    exact hasLongRun_frameBits (length_headerBits sender f) (headerBits_dominant sender f)
  simp [readFrame, readLength_encodeFrame, lengthDamage_encodeFrame, hframing, firstPlace, hrun, checkDamage_encodeFrame,
    readClass_encodeFrame, readPayload_encodeFrame, payloadOf_bytes, readSender_encodeFrame]

end

end Sys2Proof.Machine.FrameRead
end

section
/-! Frames of other stations: what a delivery, a broken frame and an idle line make of the link controller (9.3, 9.4,
9.5). -/

namespace Sys2Proof.Machine.Reception

open KeyDrive PedalAction ConditionByte FrameRead

/-! ### The intake queue and mute (R165, R168) -/

section
variable {s : State} {e : Entry} {places : Nat}

theorem enterIntake_of_room {h : Handling} (hh : s.link.handling = some h) (hroom : s.link.intake.length < places) :
    s.enterIntake e places = s.setLink { s.link with intake := s.link.intake ++ [e] } := by
  simp [State.enterIntake, hroom, State.takeNext, hh]

theorem enterIntake_of_full (hfull : places ≤ s.link.intake.length) : s.enterIntake e places = s.countLoss := by
  simp [State.enterIntake, Nat.not_lt.mpr hfull]

end

@[simp] theorem intake_heardClean (x : Link) : x.heardClean.intake = x.intake := by
  unfold Link.heardClean
  (repeat' split) <;> rfl

@[simp] theorem handling_heardClean (x : Link) : x.heardClean.handling = x.handling := by
  unfold Link.heardClean
  (repeat' split) <;> rfl

/-- The link controller once a clean frame has been entered. -/
def entered (x : Link) (e : Entry) : Link := { x.heardClean with line := .idle, intake := x.intake ++ [e] }

section
variable {x : Link} (e : Entry)

theorem entered_of_hearing (h : x.muted = false) :
    entered x e = { x with line := .idle, intake := x.intake ++ [e] } := by
  simp [entered, Link.heardClean, h]

theorem entered_of_counting (h : x.muted = true) (hcount : x.cleanCount + 1 < 64) :
    entered x e = { x with line := .idle, intake := x.intake ++ [e], cleanCount := x.cleanCount + 1 } := by
  simp [entered, Link.heardClean, h, Nat.not_le.mpr hcount]

theorem entered_of_last (h : x.muted = true) (hcount : 64 ≤ x.cleanCount + 1) :
    entered x e =
      { x with line := .idle, intake := x.intake ++ [e], muted := false, objectionCount := 0, cleanCount := 0 } := by
  simp [entered, Link.heardClean, h, hcount]

end

/-! ### A frame read whole (R160, R161) -/

theorem receives_iff (s : State) : s.receives = true ↔ s.link.line ≠ .unread ∧ s.link.onLine = none := by
  simp [State.receives]

/-- Outside LOADING and UNVOICED every clean frame is entered (R168, R170). -/
theorem deliver_of_active {s : State} (h : s.mode.active = true) (straps sender : StationNo) (f : Payload) :
    s.deliver straps sender f = s.enterIntake { sender, payload := f, own := false, arrival := s.now } 23 := by
  cases hmode : s.mode <;> simp [hmode, Mode.active] at h <;> simp [State.deliver, hmode]

section
variable {s : State} (straps sender : StationNo) (f : Payload)

theorem onDelivery_of_objected (hr : s.receives = true) :
    s.onDelivery straps (encodeFrame sender f) true = s.setLink { s.link with line := .idle, cleanCount := 0 } := by
  simp [State.onDelivery, hr, readFrame_encodeFrame]

theorem onDelivery_of_clean (hr : s.receives = true) (hactive : s.mode.active = true) :
    s.onDelivery straps (encodeFrame sender f) false =
      (s.setLink { s.link.heardClean with line := .idle }).enterIntake
        { sender, payload := f, own := false, arrival := s.now } 23 := by
  simp [State.onDelivery, hr, readFrame_encodeFrame, deliver_of_active, hactive]

theorem onDelivery_of_entered {h : Handling} (hr : s.receives = true) (hactive : s.mode.active = true)
    (hh : s.link.handling = some h) (hroom : s.link.intake.length < 23) :
    s.onDelivery straps (encodeFrame sender f) false =
      s.setLink (entered s.link { sender, payload := f, own := false, arrival := s.now }) := by
  rw [onDelivery_of_clean straps sender f hr hactive,
    enterIntake_of_room (h := h) (by simpa using hh) (by simpa using hroom)]
  simp [State.setLink, entered]

theorem onDelivery_of_lost (hr : s.receives = true) (hactive : s.mode.active = true)
    (hfull : 23 ≤ s.link.intake.length) :
    s.onDelivery straps (encodeFrame sender f) false =
      (s.setLink { s.link.heardClean with line := .idle }).countLoss := by
  rw [onDelivery_of_clean straps sender f hr hactive, enterIntake_of_full (by simpa using hfull)]

end

/-! ### The commands as events -/

theorem changesOnly_setLink (s : State) (x : Link) : ChangesOnly [.link] s (s.setLink x) := by
  intro p hp
  cases p <;> simp_all [Part.same]

/-- An event that replaces the link controller. -/
theorem changesOnly_setLink_at (s : State) (now : Time) (x : Link) : ChangesOnly [.link] s ((s.setNow now).setLink x) :=
  changesOnly_append (changesOnly_setNow s now) (changesOnly_setLink _ x)

theorem changesOnly_countLoss (s : State) : ChangesOnly [.control, .counters] s s.countLoss := by
  intro p hp
  cases p <;> simp_all [Part.same]

theorem countersBut_countLoss (s : State) : CountersBut [.intakeLost] s s.countLoss := fun i hi => by
  rw [State.counters_countLoss, s.get_count_ne (by simpa using hi)]

theorem link_notify (s u : State) (cause : Cause) :
    (State.notify s cause u).link = { u.link with slots := (State.notify s cause u).link.slots } :=
  (State.slotsOnly_notify s u cause).2

theorem lossMark_notify (s u : State) (cause : Cause) :
    (State.notify s cause u).control.lossMark = u.control.lossMark := by
  unfold State.notify State.queueNotice
  (repeat' split) <;> simp

section
variable {s u : State} {now : Time} {x : Link}

theorem exec_frameDelivery {straps : StationNo} {bits : List Bool} {objection : Bool}
    (h : (s.setNow now).onDelivery straps bits objection = u) :
    exec (.frameDelivery now straps bits objection) s = .next (State.notify s (linkCause s u) u) :=
  congrArg (fun u => Host.Outcome.next (State.notify s (linkCause s u) u)) h

/-- A delivery that leaves mute as it is queues no NOTICE (R180). -/
theorem exec_frameDelivery_of_setLink {straps : StationNo} {bits : List Bool} {objection : Bool}
    (h : (s.setNow now).onDelivery straps bits objection = (s.setNow now).setLink x) (hmuted : x.muted = s.link.muted) :
    exec (.frameDelivery now straps bits objection) s = .next ((s.setNow now).setLink x) := by
  have hsame : ((s.setNow now).setLink x).conditionByte = s.conditionByte :=
    conditionByte_setLink (s := s.setNow now) hmuted
  rw [exec_frameDelivery h, State.notify_of_same hsame]

theorem exec_brokenFrame (hr : s.receives = true) :
    exec (.brokenFrame now) s = .next ((s.setNow now).setLink { s.link with line := .unread, cleanCount := 0 }) := by
  have h : (if (s.setNow now).receives then (s.setNow now).breakFrame else s.setNow now) =
      (s.setNow now).setLink { s.link with line := .unread, cleanCount := 0 } := if_pos hr
  exact congrArg Host.Outcome.next h

theorem exec_lineIdle (hline : s.link.line = .unread) :
    exec (.lineIdle now) s = .next ((s.setNow now).setLink { s.link with line := .idle }) := by
  have h : (s.setNow now).onLineIdle = (s.setNow now).setLink { s.link with line := .idle } := if_pos hline
  exact congrArg Host.Outcome.next h

/-- The byte's LINK indication changes when a station with no loss mark leaves mute (R179). -/
theorem conditionByte_ne_of_unmuted (hmuted : s.link.muted = true) (hu : u.link.muted = false)
    (hmark : u.control.lossMark = false) : u.conditionByte ≠ s.conditionByte := fun h => by
  have hs : s.linkIndication = true := by simp [State.linkIndication, hmuted]
  have hu : u.linkIndication = false := by simp [State.linkIndication, hu, hmark]
  obtain ⟨-, -, -, -, hlinkS, -⟩ := fields_conditionByte s
  obtain ⟨-, -, -, -, hlinkU, -⟩ := fields_conditionByte u
  rw [h, hlinkS, hs, hu] at hlinkU
  cases hlinkU

end

/-! ### What becomes of a frame (R161, R165, R168) -/

section
variable {s : State} {now : Time} {h : Handling} (straps sender : StationNo) (f : Payload)

theorem exec_frameDelivery_of_entered (hr : s.receives = true) (hactive : s.mode.active = true)
    (hh : s.link.handling = some h) (hroom : s.link.intake.length < 23) {x : Link}
    (hx : entered s.link { sender, payload := f, own := false, arrival := now } = x) (hmuted : x.muted = s.link.muted) :
    exec (.frameDelivery now straps (encodeFrame sender f) false) s = .next ((s.setNow now).setLink x) := by
  subst hx
  exact exec_frameDelivery_of_setLink
    (onDelivery_of_entered (s := s.setNow now) straps sender f hr hactive hh hroom) hmuted

/-- The 64th clean frame ends mute, and a NOTICE tells it (R165, R180). -/
theorem frameDelivery_ends_mute (hr : s.receives = true) (hactive : s.mode.active = true)
    (hh : s.link.handling = some h) (hroom : s.link.intake.length < 23) (hm : s.link.muted = true)
    (hcount : 64 ≤ s.link.cleanCount + 1) :
    ∃ t, exec (.frameDelivery now straps (encodeFrame sender f) false) s = .next t ∧ t.now = now ∧
      t.link.intake = s.link.intake ++ [{ sender, payload := f, own := false, arrival := now }] ∧
      t.link.line = .idle ∧ t.link.muted = false ∧ t.link.cleanCount = 0 ∧ t.link.objectionCount = 0 ∧
      (s.control.lossMark = false → t.noticeStands t.conditionByte) ∧ ChangesOnly [.link, .control] s t := by
  have hexec := exec_frameDelivery (onDelivery_of_entered (s := s.setNow now) straps sender f hr hactive hh hroom)
  rw [State.setNow_link, entered_of_last _ hm hcount] at hexec
  refine ⟨_, hexec, by simp, ?_⟩
  rw [link_notify, State.conditionByte_notify]
  exact ⟨rfl, rfl, rfl, rfl, rfl,
    fun hmark => State.noticeStands_notify hactive (conditionByte_ne_of_unmuted hm rfl hmark),
    changesOnly_mono (changesOnly_append (changesOnly_setLink_at s now _) (changesOnly_notify s _ _)) (by simp)⟩

/-- A frame that finds the intake full is lost and counted. -/
theorem frameDelivery_loses (hr : s.receives = true) (hactive : s.mode.active = true)
    (hfull : 23 ≤ s.link.intake.length) :
    ∃ t, exec (.frameDelivery now straps (encodeFrame sender f) false) s = .next t ∧ t.now = now ∧
      t.link.intake = s.link.intake ∧ t.control.lossMark = true ∧ t.link.line = .idle ∧
      t.counters.get .intakeLost = min (s.counters.get .intakeLost + 1) 65535 ∧ CountersBut [.intakeLost] s t ∧
      ChangesOnly [.link, .control, .counters] s t := by
  have hexec := exec_frameDelivery (onDelivery_of_lost (s := s.setNow now) straps sender f hr hactive hfull)
  have hcount := countersBut_countLoss ((s.setNow now).setLink { (s.setNow now).link.heardClean with line := .idle })
  refine ⟨_, hexec, by simp, ?_⟩
  rw [link_notify, lossMark_notify]
  refine ⟨by simp, rfl, by simp, by simp, fun i hi => by simpa using hcount i hi, ?_⟩
  exact changesOnly_mono
    (changesOnly_append (changesOnly_setLink_at s now _)
      (changesOnly_append (changesOnly_countLoss _) (changesOnly_notify s _ _)))
    (by simp)

end

end Sys2Proof.Machine.Reception

namespace Sys2Proof.Machine

open Reception

/-- Settles O49, by what is read of the frame, whether the intake has a place for it, and whether the station is muted. -/
theorem framesOfOthersAreTaken : Obligations.FramesOfOthersAreTaken := by
  intro s now straps sender f h
  refine ⟨fun hline honLine hactive hh => ?_, fun hline honLine => ?_, fun hline => ?_⟩
  · have hr := (receives_iff s).mpr ⟨hline, honLine⟩
    refine ⟨fun hm hroom => ?_, fun _ hfull => ?_, fun hm hroom => ?_, ?_⟩
    · exact ⟨_, exec_frameDelivery_of_entered straps sender f hr hactive hh hroom (entered_of_hearing _ hm) rfl,
        rfl, rfl, changesOnly_setLink_at s now _⟩
    · exact frameDelivery_loses straps sender f hr hactive hfull
    · rcases Nat.lt_or_ge (s.link.cleanCount + 1) 64 with hcount | hcount
      · have hentered := entered_of_counting { sender, payload := f, own := false, arrival := now } hm hcount
        exact ⟨_, exec_frameDelivery_of_entered straps sender f hr hactive hh hroom hentered rfl, rfl, rfl, rfl,
          fun _ => ⟨hm, rfl, rfl, changesOnly_setLink_at s now _⟩,
          fun hlast => absurd hlast (Nat.not_le.mpr hcount)⟩
      · obtain ⟨t, hexec, hnow, hintake, hidle, hends⟩ :=
          frameDelivery_ends_mute (now := now) straps sender f hr hactive hh hroom hm hcount
        exact ⟨t, hexec, hnow, hintake, hidle, fun hless => absurd hcount (Nat.not_le.mpr hless), fun _ => hends⟩
    · have hobjected := onDelivery_of_objected (s := s.setNow now) straps sender f hr
      exact ⟨_, exec_frameDelivery_of_setLink hobjected rfl, rfl, rfl, changesOnly_setLink_at s now _⟩
  · exact ⟨_, exec_brokenFrame ((receives_iff s).mpr ⟨hline, honLine⟩), rfl, rfl, changesOnly_setLink_at s now _⟩
  · exact ⟨_, exec_lineIdle hline, rfl, rfl, changesOnly_setLink_at s now _⟩

end Sys2Proof.Machine
end
